-- ==== Sys2Proof/Word.lean ====
section
/-!
DEFINITION. The word types of the block's ports and registers (spec/00_scope.md R9, spec/30_encoding.md R70 and R75).
Only widths stand here. Every field layout and every computation stands in Decode.lean or under Machine/.
-/
namespace Sys2Proof

/-- One byte: a scratch cell, `bus_rdata`, or `cmd_data` (R9, R31, R35). -/
abbrev Byte := BitVec 8

/-- The sensor's 7-bit bus address, `cmd_addr` (R8, R31). -/
abbrev BusAddr := BitVec 7

/-- A 16-bit register: T1 is read unsigned, T2, T3, every window sample and `avg` are read as two's complement (R9, R82). -/
abbrev Reg16 := BitVec 16

/-- The unsigned 20-bit raw temperature code (R81). -/
abbrev RawCode := BitVec 20

/-- The 19-bit input word IW: the input ports sampled at one rising edge of `clk` (R70). -/
abbrev InputWord := BitVec 19

/-- The 18-bit bus-command word CMDW, meaningful while `cmd_valid = 1` (R75). -/
abbrev CommandWord := BitVec 18

/-- A word of one of the two formats of spec/opcode_table.json.
An `input` word is one clock cycle's IW (R70).
A `command` word is a CMDW handed to the bus collaborator by itself (R75, R76); which cycle the model gives it is
assumption 2. -/
inductive PortWord where
  | input (iw : InputWord)
  | command (cw : CommandWord)
deriving DecidableEq, Repr

end Sys2Proof
end

