-- ==== Sys2Proof/Syntax.lean ====
section
/-!
DEFINITION. The operations of spec/opcode_table.json: one constructor of `Instr` for each of its twenty rows
(twelve input-word rows, R73, and eight command-word rows, R76), and the sampled input ports (R35).
-/
namespace Sys2Proof

/-- The input ports of R35 sampled at one rising edge of `clk` (`clk` itself is the step). -/
structure InputPorts where
  sec : Bool
  fine : Bool
  coarse : Bool
  busEvt : Bool
  srst : Bool
  rst : Bool
  busNack : Bool
  busDataReady : Bool
  busStop : Bool
  btnAN : Bool
  btnBN : Bool
  busRdata : Byte
deriving DecidableEq, Repr

/-- The eight command kinds of R76. -/
inductive CommandKind where
  | sendSingle
  | sendStart
  | sendCont
  | sendFinish
  | recvSingle
  | recvStart
  | recvCont
  | recvFinish
deriving DecidableEq, Repr

/-- One constructor per row of spec/opcode_table.json.
An operand is a field of the word that the row leaves free and that the operation can read:
a pin level is `true` for logic high (released) and `false` for logic low (pressed) (R35).
BUS_OK also carries the two status flags no rule reads (R74). -/
inductive Instr where
  /-- RST (R270). -/
  | rst
  /-- SRST (R246). -/
  | srst
  /-- SEC_TICK (R150). -/
  | secTick
  /-- FINE_TICK (R100): the levels of `btnA_n` and `btnB_n`. -/
  | fineTick (pa pb : Bool)
  /-- FINE_A_ACTIVE (R101): `btnA_n = 0`; the level of `btnB_n`. -/
  | fineAActive (pb : Bool)
  /-- FINE_A_INACTIVE (R101): `btnA_n = 1`; the level of `btnB_n`. -/
  | fineAInactive (pb : Bool)
  /-- FINE_B_ACTIVE (R141): `btnB_n = 0`; the level of `btnA_n`. -/
  | fineBActive (pa : Bool)
  /-- FINE_B_INACTIVE (R141): `btnB_n = 1`; the level of `btnA_n`. -/
  | fineBInactive (pa : Bool)
  /-- BUS_NACK (R241). -/
  | busNack
  /-- BUS_OK (R171): `bus_rdata`, `bus_data_ready`, `bus_stop`. -/
  | busOk (rdata : Byte) (drdy stop : Bool)
  /-- COARSE_TICK (R171). -/
  | coarseTick
  /-- IDLE (R72). -/
  | idle
  /-- SEND_SINGLE (R76). -/
  | sendSingle (addr : BusAddr) (data : Byte)
  /-- SEND_START (R76). -/
  | sendStart (addr : BusAddr) (data : Byte)
  /-- SEND_CONT (R78, reserved). -/
  | sendCont (addr : BusAddr) (data : Byte)
  /-- SEND_FINISH (R76). -/
  | sendFinish (addr : BusAddr) (data : Byte)
  /-- RECV_SINGLE (R76). -/
  | recvSingle (addr : BusAddr) (data : Byte)
  /-- RECV_START (R76). -/
  | recvStart (addr : BusAddr) (data : Byte)
  /-- RECV_CONT (R76). -/
  | recvCont (addr : BusAddr) (data : Byte)
  /-- RECV_FINISH (R76). -/
  | recvFinish (addr : BusAddr) (data : Byte)
deriving DecidableEq, Repr

end Sys2Proof
end

