-- ==== Sys2Proof/WellFormed.lean ====
section
/-!
DEFINITION. Which terms of `Instr` are operations the spec allows.
The reserved command kind is not one (R78), and a receive command carries `DATA = 0` (R77).
-/
namespace Sys2Proof

/-- R78: the kind SEND_CONT is reserved. -/
def Instr.kindAllowed : Instr → Bool
  | .sendCont _ _ => false
  | .rst | .srst | .secTick | .fineTick _ _ | .fineAActive _ | .fineAInactive _ | .fineBActive _ | .fineBInactive _
  | .busNack | .busOk _ _ _ | .coarseTick | .idle
  | .sendSingle _ _ | .sendStart _ _ | .sendFinish _ _
  | .recvSingle _ _ | .recvStart _ _ | .recvCont _ _ | .recvFinish _ _ => true

/-- R77: receive commands have `DATA = 0`. -/
def Instr.receiveDataZero : Instr → Bool
  | .recvSingle _ data => data == 0#8
  | .recvStart _ data => data == 0#8
  | .recvCont _ data => data == 0#8
  | .recvFinish _ data => data == 0#8
  | .rst | .srst | .secTick | .fineTick _ _ | .fineAActive _ | .fineAInactive _ | .fineBActive _ | .fineBInactive _
  | .busNack | .busOk _ _ _ | .coarseTick | .idle
  | .sendSingle _ _ | .sendStart _ _ | .sendCont _ _ | .sendFinish _ _ => true

/-- A well-formed operation: its command kind is not reserved and a receive command carries no data. -/
def Instr.wellFormed (i : Instr) : Bool := i.kindAllowed && i.receiveDataZero

end Sys2Proof
end

