-- ==== Sys2Proof/Decode.lean ====
section
/-!
DEFINITION. Decoding and encoding of the two word formats (spec/30_encoding.md R70 to R79).
The input-word rows overlap on purpose: "A decoder applies every row whose pattern matches" (R72), so decoding an input word
gives the LIST of the rows it matches, in the table's order.
A command word matches exactly one row.
-/
namespace Sys2Proof

/-! ### Format IW (R70) -/

/-- R70: the ports an input word is the concatenation of. -/
def portsOf (w : InputWord) : InputPorts :=
  { sec := w.getLsbD 0
    fine := w.getLsbD 1
    coarse := w.getLsbD 2
    busEvt := w.getLsbD 3
    srst := w.getLsbD 4
    rst := w.getLsbD 5
    busNack := w.getLsbD 6
    busDataReady := w.getLsbD 7
    busStop := w.getLsbD 8
    btnAN := w.getLsbD 9
    btnBN := w.getLsbD 10
    busRdata := w.extractLsb' 11 8 }

/-- A one-bit field of an input word, at its bit number (R70). -/
def bitAt (n : Nat) (b : Bool) : InputWord := (BitVec.ofBool b).setWidth 19 <<< n

/-- R70 read the other way: the input word of the sampled ports. -/
def inputWordOf (p : InputPorts) : InputWord :=
  bitAt 0 p.sec ||| bitAt 1 p.fine ||| bitAt 2 p.coarse ||| bitAt 3 p.busEvt ||| bitAt 4 p.srst ||| bitAt 5 p.rst
    ||| bitAt 6 p.busNack ||| bitAt 7 p.busDataReady ||| bitAt 8 p.busStop ||| bitAt 9 p.btnAN ||| bitAt 10 p.btnBN
    ||| p.busRdata.setWidth 19 <<< 11

/-- An IDLE cycle with every don't-care field at R71's value: the pins released, the bus flags and the byte 0. -/
def quietPorts : InputPorts :=
  { sec := false, fine := false, coarse := false, busEvt := false, srst := false, rst := false
    busNack := false, busDataReady := false, busStop := false, btnAN := true, btnBN := true, busRdata := 0#8 }

/-- One input-word row of R73: its mask, its match value, how many bits the table gives it in whole bytes
(the byte that holds its mask's highest bit), and the operation a matching cycle's ports stand for. -/
structure InputRow where
  mask : InputWord
  value : InputWord
  tableBits : Nat
  read : InputPorts → Instr

/-- The twelve rows of R73, in the table's order. -/
def inputRows : List InputRow :=
  [ { mask := 0x020#19, value := 0x020#19, tableBits := 8, read := fun _ => .rst },
    { mask := 0x030#19, value := 0x010#19, tableBits := 8, read := fun _ => .srst },
    { mask := 0x021#19, value := 0x001#19, tableBits := 8, read := fun _ => .secTick },
    { mask := 0x022#19, value := 0x002#19, tableBits := 8, read := fun p => .fineTick p.btnAN p.btnBN },
    { mask := 0x222#19, value := 0x002#19, tableBits := 16, read := fun p => .fineAActive p.btnBN },
    { mask := 0x222#19, value := 0x202#19, tableBits := 16, read := fun p => .fineAInactive p.btnBN },
    { mask := 0x422#19, value := 0x002#19, tableBits := 16, read := fun p => .fineBActive p.btnAN },
    { mask := 0x422#19, value := 0x402#19, tableBits := 16, read := fun p => .fineBInactive p.btnAN },
    { mask := 0x078#19, value := 0x048#19, tableBits := 8, read := fun _ => .busNack },
    { mask := 0x078#19, value := 0x008#19, tableBits := 8,
      read := fun p => .busOk p.busRdata p.busDataReady p.busStop },
    { mask := 0x034#19, value := 0x004#19, tableBits := 8, read := fun _ => .coarseTick },
    { mask := 0x03F#19, value := 0x000#19, tableBits := 8, read := fun _ => .idle } ]

/-- Whether an input word matches a row's pattern (R73). -/
def InputRow.matchesWord (r : InputRow) (w : InputWord) : Bool := w &&& r.mask == r.value

/-- Every row an input word matches, as operations, in the table's order (R72, R73). -/
def matchingRows (w : InputWord) : List Instr :=
  (inputRows.filter (fun r => r.matchesWord w)).map (fun r => r.read (portsOf w))

/-- Whether a row is a branch of FINE_TICK (R101, R141) and not an operation of R72's list by itself. -/
def Instr.isFineBranch : Instr → Bool
  | .fineAActive _ | .fineAInactive _ | .fineBActive _ | .fineBInactive _ => true
  | .rst | .srst | .secTick | .fineTick _ _ | .busNack | .busOk _ _ _ | .coarseTick | .idle
  | .sendSingle _ _ | .sendStart _ _ | .sendCont _ _ | .sendFinish _ _
  | .recvSingle _ _ | .recvStart _ _ | .recvCont _ _ | .recvFinish _ _ => false

/-! ### Format CMDW (R75) -/

/-- R76: the KIND field of a command kind. -/
def CommandKind.bits : CommandKind → BitVec 3
  | .sendSingle => 0b000#3
  | .sendStart => 0b001#3
  | .sendCont => 0b010#3
  | .sendFinish => 0b011#3
  | .recvSingle => 0b100#3
  | .recvStart => 0b101#3
  | .recvCont => 0b110#3
  | .recvFinish => 0b111#3

/-- R76 read the other way: the command kind of a KIND field. -/
def commandKindOf (k : BitVec 3) : CommandKind :=
  if k = 0b000#3 then .sendSingle
  else if k = 0b001#3 then .sendStart
  else if k = 0b010#3 then .sendCont
  else if k = 0b011#3 then .sendFinish
  else if k = 0b100#3 then .recvSingle
  else if k = 0b101#3 then .recvStart
  else if k = 0b110#3 then .recvCont
  else .recvFinish

/-- R75: `CMDW = (KIND << 15) | (ADDR << 8) | DATA`. -/
def commandWordOf (kind : BitVec 3) (addr : BusAddr) (data : Byte) : CommandWord :=
  kind.setWidth 18 <<< 15 ||| addr.setWidth 18 <<< 8 ||| data.setWidth 18

/-- R75: the KIND field, bits [17:15]. -/
def kindField (w : CommandWord) : BitVec 3 := w.extractLsb' 15 3

/-- R75: the ADDR field, bits [14:8]. -/
def addrField (w : CommandWord) : BusAddr := w.extractLsb' 8 7

/-- R75: the DATA field, bits [7:0]. -/
def dataField (w : CommandWord) : Byte := w.extractLsb' 0 8

/-- R75: `KIND[2]` is the read flag, the `isRead` argument of `setSlaveAddress(addr, isRead)`. -/
def readFlag (kind : BitVec 3) : Bool := kind.getLsbD 2

/-- The command operation of a kind with its ADDR and DATA operands (R76). -/
def commandInstr (kind : CommandKind) (addr : BusAddr) (data : Byte) : Instr :=
  match kind with
  | .sendSingle => .sendSingle addr data
  | .sendStart => .sendStart addr data
  | .sendCont => .sendCont addr data
  | .sendFinish => .sendFinish addr data
  | .recvSingle => .recvSingle addr data
  | .recvStart => .recvStart addr data
  | .recvCont => .recvCont addr data
  | .recvFinish => .recvFinish addr data

/-- The one command row a command word matches (R75, R76). The reserved kind decodes to itself (R78). -/
def decodeCommand (w : CommandWord) : Instr :=
  commandInstr (commandKindOf (kindField w)) (addrField w) (dataField w)

/-! ### Decoding -/

/-- The rows a word of either format matches. -/
def decodeWord : PortWord → List Instr
  | .input w => matchingRows w
  | .command w => [decodeCommand w]

/-- Why a number is not the word of ONE operation. -/
inductive DecodeError where
  /-- The number needs more than the 19 bits of IW (R70). -/
  | inputTooWide
  /-- The number needs more than the 18 bits of CMDW (R75). -/
  | commandTooWide
  /-- The input word selects several operations at once (R72): it is a cycle, not one operation. -/
  | severalOperations
deriving DecidableEq, Repr

/-- An input word of a number. -/
def asInputWord (w : Nat) : Except DecodeError InputWord :=
  if w < 2 ^ 19 then .ok (BitVec.ofNat 19 w) else .error .inputTooWide

/-- A command word of a number. -/
def asCommandWord (w : Nat) : Except DecodeError CommandWord :=
  if w < 2 ^ 18 then .ok (BitVec.ofNat 18 w) else .error .commandTooWide

/-- The one operation of an input word that selects one.
The four FINE_A and FINE_B rows are branches of FINE_TICK, so a fine tick alone is one operation under three of the table's
names: the row whose match value is the word itself and whose table bits are `nbits` names it, else FINE_TICK does. -/
def decodeInput (nbits : Nat) (w : InputWord) : Except DecodeError Instr :=
  match (matchingRows w).filter (fun i => !i.isFineBranch) with
  | [i] =>
    match inputRows.find? (fun r => r.tableBits == nbits && r.value == w) with
    | some r => .ok (r.read (portsOf w))
    | none => .ok i
  | _ => .error .severalOperations

/-- The format of a table word by how many bits the table gives its row:
no input-word row has a bit above bit 10, and every command-word row has bits up to bit 17 (R73, R75). -/
def isCommandWidth (nbits : Nat) : Bool := 16 < nbits

/-- A table word of `nbits` bits, decoded, or the reason it is not one operation's word. -/
def decodeNumber (nbits w : Nat) : Except DecodeError Instr :=
  if isCommandWidth nbits then
    match asCommandWord w with
    | .ok cw => .ok (decodeCommand cw)
    | .error e => .error e
  else
    match asInputWord w with
    | .ok iw => decodeInput nbits iw
    | .error e => .error e

/-- The instruction the decoder reads from an instruction whose bits are `w`, numbered as spec/opcode_table.json numbers
them; `none` where `decodeNumber` refuses by name. -/
def decodeTableWord (nbits w : Nat) : Option Instr :=
  match decodeNumber nbits w with
  | .ok i => some i
  | .error _ => none

/-! ### Encoding -/

/-- The word of an operation. A field the operation does not read takes R71's value (released pins, 0 elsewhere). -/
def encode : Instr → PortWord
  | .rst => .input (inputWordOf { quietPorts with rst := true })
  | .srst => .input (inputWordOf { quietPorts with srst := true })
  | .secTick => .input (inputWordOf { quietPorts with sec := true })
  | .fineTick pa pb => .input (inputWordOf { quietPorts with fine := true, btnAN := pa, btnBN := pb })
  | .fineAActive pb => .input (inputWordOf { quietPorts with fine := true, btnAN := false, btnBN := pb })
  | .fineAInactive pb => .input (inputWordOf { quietPorts with fine := true, btnAN := true, btnBN := pb })
  | .fineBActive pa => .input (inputWordOf { quietPorts with fine := true, btnAN := pa, btnBN := false })
  | .fineBInactive pa => .input (inputWordOf { quietPorts with fine := true, btnAN := pa, btnBN := true })
  | .busNack => .input (inputWordOf { quietPorts with busEvt := true, busNack := true })
  | .busOk rdata drdy stop =>
    .input (inputWordOf { quietPorts with busEvt := true, busRdata := rdata, busDataReady := drdy, busStop := stop })
  | .coarseTick => .input (inputWordOf { quietPorts with coarse := true })
  | .idle => .input (inputWordOf quietPorts)
  | .sendSingle addr data => .command (commandWordOf CommandKind.sendSingle.bits addr data)
  | .sendStart addr data => .command (commandWordOf CommandKind.sendStart.bits addr data)
  | .sendCont addr data => .command (commandWordOf CommandKind.sendCont.bits addr data)
  | .sendFinish addr data => .command (commandWordOf CommandKind.sendFinish.bits addr data)
  | .recvSingle addr data => .command (commandWordOf CommandKind.recvSingle.bits addr data)
  | .recvStart addr data => .command (commandWordOf CommandKind.recvStart.bits addr data)
  | .recvCont addr data => .command (commandWordOf CommandKind.recvCont.bits addr data)
  | .recvFinish addr data => .command (commandWordOf CommandKind.recvFinish.bits addr data)

end Sys2Proof
end

