-- ==== Sys2Proof/Config.lean ====
section
/-!
DEFINITION. The implementation parameters (spec/00_scope.md R7 and R8).
The fixed ones are named constants. The open ones are the fields of `Params`, which the state carries and no step writes,
so that every statement about a state holds for every value of them.
-/
namespace Sys2Proof.Config

/-- FINE_TICK_PERIOD in ms, nominal and informative only (R7, R253). -/
def fineTickPeriodMs : Nat := 10

/-- COARSE_TICK_PERIOD in ms, nominal and informative only (R7, R253). -/
def coarseTickPeriodMs : Nat := 100

/-- SEC_TICK_PERIOD in ms, nominal and informative only (R7, R253). -/
def secTickPeriodMs : Nat := 1000

/-- DEBOUNCE_FLOOR, in fine ticks (R7). -/
def debounceFloor : Nat := 1

/-- A_ST_SHORT: the durations that take ShowTemperature to ShowClock (R7). -/
def aStShort : Nat × Nat := (1, 90)

/-- A_ST_LONG: the durations that take ShowTemperature to EditHours (R7). -/
def aStLong : Nat × Nat := (100, 300)

/-- A_EDIT: the durations that leave an edit mode (R7). -/
def aEdit : Nat × Nat := (1, 50)

/-- B_INC: the durations that increment the edited field (R7). -/
def bInc : Nat × Nat := (1, 50)

/-- IDLE_TIMEOUT, in fine ticks (R7). -/
def idleTimeout : Nat := 300

/-- CAL_BYTES (R7). -/
def calBytes : Nat := 6

/-- RAW_BYTES (R7). -/
def rawBytes : Nat := 2

/-- WINDOW_N (R7). -/
def windowN : Nat := 10

/-- TEMP_MIN in 0.01 degC (R7, R82). -/
def tempMin : Int := -4000

/-- TEMP_MAX in 0.01 degC (R7, R82). -/
def tempMax : Int := 8500

/-- COMP_DIVISOR: the final divisor of the source's real-valued formula (R7, R212). -/
def compDivisor : Int := 5120

end Sys2Proof.Config

namespace Sys2Proof

/-- The parameters the source leaves open, which "the model takes ... as an argument" (R8).
The default of each field is R8's default column. -/
structure Params where
  /-- HELD_W, the width of each `heldTicks` counter; range 9..32. -/
  heldW : Nat := 16
  /-- SLAVE_ADDR, the sensor's bus address. -/
  slaveAddr : BusAddr := 0x76#7
  /-- REG_CALIB, the first calibration register. -/
  regCalib : Byte := 0x88#8
  /-- REG_CTRL_MEAS, the measurement-control register. -/
  regCtrlMeas : Byte := 0xF4#8
  /-- CTRL_MEAS_VALUE, the value that starts a forced conversion. -/
  ctrlMeasValue : Byte := 0x21#8
  /-- REG_STATUS, the status register polled for the ready bit. -/
  regStatus : Byte := 0xF3#8
  /-- REG_TEMP, the first raw temperature register. -/
  regTemp : Byte := 0xFA#8
  /-- READY_MASK, the status bits the ready check tests; nonzero. -/
  readyMask : Byte := 0x01#8
  /-- READY_WHEN_SET: true when a set masked bit means ready. -/
  readyWhenSet : Bool := true
  /-- TRIM_CENTI, a signed 16-bit offset in 0.01 degC. -/
  trimCenti : Reg16 := 0#16
deriving DecidableEq, Repr

/-- R8's default column. -/
def Params.defaults : Params := {}

/-- R8's range column: HELD_W is in 9..32 and READY_MASK is nonzero. Every value of the other fields is in range. -/
abbrev Params.wf (p : Params) : Prop := 9 ≤ p.heldW ∧ p.heldW ≤ 32 ∧ p.readyMask ≠ 0#8

end Sys2Proof
end

