-- ==== Sys2Proof/Machine/State.lean ====
section
/-!
DEFINITION. The state of the block (spec/10_state.md R22 to R33), its reset value (spec/70_reset_and_hazards.md R270),
and the two ways a step can stop.
The records follow R22's writers: one record per unit. Registers whose upper encodings are never reached have
range-restricted types, as R86 asks ("so that they cannot be written down").
-/
namespace Sys2Proof.Machine

/-- The display or edit mode (R23); 2 bits, encoded by `modeBits` (Machine/Outputs.lean). -/
inductive Mode where
  | showTemperature
  | showClock
  | editHours
  | editMinutes
deriving DecidableEq, Repr

/-- The protocol state (R30); 4 bits, encoded by `protocolBits` (Machine/Outputs.lean). Values 9..15 are never reached. -/
inductive ProtocolState where
  | readCalibration
  | writeCalibration
  | configFinished
  | adcStatusConfig
  | adcStatus
  | adcWaitForMeasureFinish
  | adcStartReading
  | adcReadingInProgress
  | error
deriving DecidableEq, Repr

/-- The mode-navigation state: `mode` (R23) and `idleCnt`, 9 bits, 0..299 (R24). -/
structure Navigation where
  mode : Mode
  idleCnt : Fin 300
deriving DecidableEq, Repr

/-- A debouncer record `dbX` (R25). `held` is HELD_W bits unsigned; that it fits is `ButtonOk` (Safety.lean). -/
structure ButtonObservation where
  pressed : Bool
  released : Bool
  held : Nat
deriving DecidableEq, Repr

/-- ClockTime (R26): `hh` 5 bits, `mm` and `ss` 6 bits each, in plain binary (R83). -/
structure ClockTime where
  hh : Fin 24
  mm : Fin 60
  ss : Fin 60
deriving DecidableEq, Repr

/-- The SensorSession (R29): `ps`, `byteIndex` and `burstCnt` (3 bits each, 0..6), and the six scratch bytes. -/
structure SensorSession where
  ps : ProtocolState
  byteIndex : Fin 7
  burstCnt : Fin 7
  scratch : Vector Byte 6
deriving DecidableEq, Repr

/-- The CalibrationConstants (R28) and `calValid` (R27). T1 is unsigned, T2 and T3 are two's complement. -/
structure Calibration where
  t1 : Reg16
  t2 : Reg16
  t3 : Reg16
  calValid : Bool
deriving DecidableEq, Repr

/-- The TemperatureSampleWindow (R32) and the published average (R33), in signed 0.01 degC (R82). `count` is 4 bits, 0..9. -/
structure SampleWindow where
  win : Vector Reg16 10
  count : Fin 10
  avg : Reg16
  avgValid : Bool
deriving DecidableEq, Repr

/-- The registered bus-command output `cmd` (R31). -/
structure BusCommand where
  valid : Bool
  kind : BitVec 3
  addr : BusAddr
  data : Byte
deriving DecidableEq, Repr

/-- `NONE = {valid=0, kind=0, addr=0, data=0}` (R13). -/
def BusCommand.none : BusCommand := { valid := false, kind := 0#3, addr := 0#7, data := 0#8 }

/-- What the core's operations of R260 have told the bus collaborator: the last `setSlaveAddress(addr, isRead)`, the last
`putByte(byteOut)`, and the kind of the last `startCommand`.
It is the collaborator's side of the command port and no state of the block: no rule of the block reads it (assumption 19). -/
structure BusInterface where
  addr : BusAddr
  isRead : Bool
  byteOut : Byte
  started : Option CommandKind
deriving DecidableEq, Repr

/-- The collaborator's side before any command. -/
def BusInterface.quiet : BusInterface := { addr := 0#7, isRead := false, byteOut := 0#8, started := none }

/-- The state `S` of R22, and three fields of the model's own: two at its head and the last. -/
structure State where
  /-- The build's parameters (R8). The model's own field: constants of the build, which no step writes (R275). -/
  params : Params
  /-- The words the ports will carry, one a cycle, soonest first. The model's own field: the collaborators' inputs (R35). -/
  script : List PortWord
  nav : Navigation
  dbA : ButtonObservation
  dbB : ButtonObservation
  clock : ClockTime
  session : SensorSession
  cal : Calibration
  window : SampleWindow
  cmd : BusCommand
  /-- The bus collaborator's side of the command port. The model's own field (assumption 19). -/
  bus : BusInterface
deriving DecidableEq, Repr

/-- Why a step stops with a fault. BusNack is no such fault: it is a next state with `ps = Error` (R240, R241). -/
inductive Fault where
  /-- Raised by a write to `scratch` at an index outside 0..5, a cell R50 does not give.
  Only a state with `byteIndex = 6` gets there, and R38 (f) rules it out.
  Safe: the model stops where the spec gives no effect. -/
  | scratchIndexOutOfRange
deriving DecidableEq, Repr

/-- Why a step gives an operation no meaning. -/
inductive Refusal where
  /-- Raised by `exec` for an instruction without a meaning. Safe: nothing is claimed of it. -/
  | notModelled (mnemonic : String)
  /-- Raised by SEND_CONT: "`KIND = 0b010` (SEND_CONT) is reserved. No rule issues it" (R78).
  Safe: the block never emits it, and the spec gives it no effect. -/
  | reservedCommandKind
  /-- Raised by a bus event in a register combination no rule covers: `burstCnt >= 2` in AdcWaitForMeasureFinish,
  or a `burstCnt` that would become 7 (R86, treatment `refuse` of spec/93 I4).
  Safe: no run from reset gets there. -/
  | unreachableSession
deriving DecidableEq, Repr

/-- The debouncer record {0,0,0} (R25). -/
def ButtonObservation.clear : ButtonObservation := { pressed := false, released := false, held := 0 }

/-- The block right after RST, every field at R270's value, with R8's default parameters, nothing on the ports to come and
no command with the bus collaborator. -/
def State.reset : State :=
  { params := Params.defaults
    script := []
    nav := { mode := .showTemperature, idleCnt := 0 }
    dbA := ButtonObservation.clear
    dbB := ButtonObservation.clear
    clock := { hh := 0, mm := 0, ss := 0 }
    session := { ps := .readCalibration, byteIndex := 0, burstCnt := 0, scratch := Vector.replicate 6 0#8 }
    cal := { t1 := 0#16, t2 := 0#16, t3 := 0#16, calValid := false }
    window := { win := Vector.replicate 10 0#16, count := 0, avg := 0#16, avgValid := false }
    cmd := BusCommand.none
    bus := BusInterface.quiet }

end Sys2Proof.Machine
end

