-- ==== Sys2Proof/Machine/Operands.lean ====
section
/-!
DEFINITION. The notation's arithmetic (spec/00_scope.md R11) and the assembly of multi-byte operands
(spec/30_encoding.md R80 and R81, spec/20_memory.md R52 and R53).
-/
namespace Sys2Proof.Machine

/-- R11: `v >>> n` is `floor(v / 2^n)`, rounding toward minus infinity. -/
def floorShift (v : Int) (n : Nat) : Int := v / 2 ^ n

/-- R11: `v << n` is `v * 2^n`. -/
def leftShift (v : Int) (n : Nat) : Int := v * 2 ^ n

/-- R11: `tdiv(a, b)`, integer division truncating toward zero. -/
def truncDiv (a b : Int) : Int := a.tdiv b

/-- R11: `clamp(v, lo, hi)`. -/
def clamp (v lo hi : Int) : Int := if v < lo then lo else if hi < v then hi else v

/-- R11: `sat_inc_W(v)` is `min(v + 1, 2^W - 1)`. -/
def satInc (w v : Nat) : Nat := min (v + 1) (2 ^ w - 1)

/-- R11: `zext_16` of a register, as a mathematical integer. -/
def zext16 (v : Reg16) : Int := v.toNat

/-- R11: `sext_16` of a register, as a mathematical integer. -/
def sext16 (v : Reg16) : Int := v.toInt

/-- The register pattern of a mathematical integer that fits a signed 16-bit register (R10, R82). -/
def toReg16 (v : Int) : Reg16 := BitVec.ofInt 16 v

/-- The pair `{hi, lo}` of R80, with `hi` in bits [15:8] (R52). -/
def littleEndianPair (lo hi : Byte) : Reg16 := hi ++ lo

/-- CalAssemble (R80): T1, T2 and T3 from the six scratch bytes in the order received, each pair little-endian.
The registers hold the patterns; T1 is read by `zext16`, T2 and T3 by `sext16`. -/
def calAssemble (s : Vector Byte 6) : Reg16 × Reg16 × Reg16 :=
  (littleEndianPair s[0] s[1], littleEndianPair s[2] s[3], littleEndianPair s[4] s[5])

/-- RawAssemble (R81): `raw = {s[0], s[1], 0b0000}`. -/
def rawAssemble (s : Vector Byte 6) : RawCode := s[0] ++ s[1] ++ 0b0000#4

end Sys2Proof.Machine
end

