-- ==== Sys2Proof/Machine/Ops.lean ====
section
/-!
DEFINITION. The shared operations: the primitives of spec/00_scope.md R13, the bus collaborator's side of the command port
(spec/30_encoding.md R76, spec/60_exceptions.md R260), the two internal arrays of spec/20_memory.md R50,
taking the block's one exception (BusNack, spec/60_exceptions.md R241), the return from it (EngineReset, R246),
and the block reset (spec/70_reset_and_hazards.md R270).
-/
namespace Sys2Proof.Machine

/-- The outcome type of every meaning. -/
abbrev Result : Type := Host.Outcome State Fault Refusal

/-- Go on with `f` from a next state; a fault or a refusal stands. -/
def andThen (r : Result) (f : State → Result) : Result :=
  match r with
  | .next s => f s
  | .fault e => .fault e
  | .refused e => .refused e

/-! ### The command register (R13, R31) -/

/-- `N.cmd <- NONE`: "A step that performs no `Issue` writes `N.cmd <- NONE`" (R13). -/
def noCommand (s : State) : State := { s with cmd := BusCommand.none }

/-- The command port carries this kind, address and byte in the next cycle (R31, R75). -/
def putCommand (kind : CommandKind) (addr : BusAddr) (data : Byte) (s : State) : State :=
  { s with cmd := { valid := true, kind := kind.bits, addr := addr, data := data } }

/-- `Issue(kind, data)` (R13): the command goes to the address SLAVE_ADDR. -/
def issue (kind : CommandKind) (data : Byte) (s : State) : State := putCommand kind s.params.slaveAddr data s

/-! ### The bus collaborator's side of the command port (R76, R260) -/

/-- `setSlaveAddress(addr, isRead)` (R260). -/
def setSlaveAddress (addr : BusAddr) (isRead : Bool) (b : BusInterface) : BusInterface :=
  { b with addr := addr, isRead := isRead }

/-- `putByte(byte)` (R260). -/
def putByte (data : Byte) (b : BusInterface) : BusInterface := { b with byteOut := data }

/-- `startCommand(kind)` (R260). -/
def startCommand (kind : CommandKind) (b : BusInterface) : BusInterface := { b with started := some kind }

/-- The source operations a command stands for, by its kind: R76's table.
The reserved kind stands for none (R76, R78). -/
def sourceOperations (kind : CommandKind) (addr : BusAddr) (data : Byte) (b : BusInterface) : BusInterface :=
  match kind with
  | .sendSingle => startCommand .sendSingle (putByte data (setSlaveAddress addr false b))
  | .sendStart => startCommand .sendStart (putByte data (setSlaveAddress addr false b))
  | .sendCont => b
  | .sendFinish => startCommand .sendFinish (putByte data b)
  | .recvSingle => startCommand .recvSingle (setSlaveAddress addr true b)
  | .recvStart => startCommand .recvStart (setSlaveAddress addr true b)
  | .recvCont => startCommand .recvCont b
  | .recvFinish => startCommand .recvFinish b

/-- The bus collaborator takes a command (R260). No field of the block is written: "no host writes any field" (R34). -/
def receiveCommand (kind : CommandKind) (addr : BusAddr) (data : Byte) (s : State) : State :=
  { s with bus := sourceOperations kind addr data s.bus }

/-- The bus collaborator captures what `cmd_*` show in the cycle with `cmd_valid = 1` (R260, R280 (a)). -/
def captureCommand (s : State) : State :=
  if s.cmd.valid then receiveCommand (commandKindOf s.cmd.kind) s.cmd.addr s.cmd.data s else s

/-! ### The sensor session (R29) -/

/-- Write `ps`, `byteIndex` and `burstCnt`; the scratch bytes keep their values. -/
def setSession (ps : ProtocolState) (byteIndex burstCnt : Fin 7) (s : State) : State :=
  { s with session := { s.session with ps := ps, byteIndex := byteIndex, burstCnt := burstCnt } }

/-- `MemRead(scratch, i)` (R13), for the six cells of R50 (1). -/
def readScratch (s : State) (i : Fin 6) : Byte := s.session.scratch[i]

/-- `MemWrite(scratch, i, v)` (R13); a cell that R50 does not give faults. -/
def writeScratch (i : Fin 7) (v : Byte) (s : State) : Result :=
  if h : i.val < 6 then .next { s with session := { s.session with scratch := s.session.scratch.set i.val v h } }
  else .fault .scratchIndexOutOfRange

/-- Write the calibration constants and set `calValid` (R177). -/
def setCalibration (c : Reg16 × Reg16 × Reg16) (s : State) : State :=
  { s with cal := { t1 := c.1, t2 := c.2.1, t3 := c.2.2, calValid := true } }

/-- Write the averaging unit's record (R220, R221). -/
def setWindow (w : SampleWindow) (s : State) : State := { s with window := w }

/-- `MemRead(win, i)` (R13), for the ten cells of R50 (2). -/
def readWindow (s : State) (i : Fin 10) : Reg16 := s.window.win[i]

/-! ### Exception entry and return -/

/-- `raise BusNack()` (R241): `ps` becomes Error and no command is issued; "every other field keeps its value".
Entry saves nothing, and "`byteIndex`, `burstCnt` and `scratch` keep their values" (R242). -/
def raiseBusNack (s : State) : State :=
  { s with session := { s.session with ps := .error }, cmd := BusCommand.none }

/-- `EngineReset(S)` (R246): the only way out of Error besides RST.
The target is ConfigFinished if the calibration is complete, else ReadCalibration. -/
def engineReset (s : State) : State :=
  noCommand (setSession (if s.cal.calValid then .configFinished else .readCalibration) 0 0 s)

/-- `Reset()` (R270): every field of S at its reset value.
The parameters are constants of the build that "neither reset changes" (R275), and the script and the bus record are the
collaborators', not state of the block. -/
def resetBlock (s : State) : State := { State.reset with params := s.params, script := s.script, bus := s.bus }

end Sys2Proof.Machine
end

