-- ==== Sys2Proof/Machine/Clock.lean ====
section
/-!
DEFINITION. The wall clock (spec/41_digit_increment_clock.md R150 to R153) and the digit stage that edits it
(R142 to R147).
-/
namespace Sys2Proof.Machine

/-- Advance (R150): one second, with the carry chain and the silent wrap at 24 hours. -/
def advance (t : ClockTime) : ClockTime :=
  if t.ss.val + 1 = 60 then
    if t.mm.val + 1 = 60 then
      if t.hh.val + 1 = 24 then { hh := 0, mm := 0, ss := 0 }
      else { hh := Fin.ofNat 24 (t.hh.val + 1), mm := 0, ss := 0 }
    else { t with mm := Fin.ofNat 60 (t.mm.val + 1), ss := 0 }
  else { t with ss := Fin.ofNat 60 (t.ss.val + 1) }

/-- The field an edit mode edits (R143). -/
inductive EditField where
  | hours
  | minutes
deriving DecidableEq, Repr

/-- FieldOf (R143), with no field outside the edit modes: the gate of R142. -/
def fieldOf : Mode → Option EditField
  | .editHours => some .hours
  | .editMinutes => some .minutes
  | .showTemperature => none
  | .showClock => none

/-- IncField (R145): hours wrap 24 to 0, minutes wrap 60 to 0, with no carry and no touch of the seconds (R147). -/
def incField (t : ClockTime) : EditField → ClockTime
  | .hours => { t with hh := if t.hh.val = 23 then 0 else Fin.ofNat 24 (t.hh.val + 1) }
  | .minutes => { t with mm := if t.mm.val = 59 then 0 else Fin.ofNat 60 (t.mm.val + 1) }

/-- DigitIncrement (R146): the digit stage of ClockTime for a completed button-B duration. -/
def digitIncrement (m : Mode) (durB : Option Nat) (t : ClockTime) : ClockTime :=
  match durB, fieldOf m with
  | some d, some f => if Config.bInc.1 ≤ d ∧ d ≤ Config.bInc.2 then incField t f else t
  | some _, none => t
  | none, _ => t

/-- SEC_TICK (R150): the clock advances in every mode (R153). -/
def execSecTick (s : State) : Result := .next (noCommand { s with clock := advance s.clock })

end Sys2Proof.Machine
end

