-- ==== Sys2Proof/Machine/Flags.lean ====
section
/-!
DEFINITION. The block's flags (spec/10_state.md R27): the two flags of a debouncer record, computed by Debounce
(spec/40_press_decoder_mode.md R101), the fault indicator, and the ready test of a status byte
(spec/42_sensor_protocol.md R186). `calValid` and `avgValid` are written whole by the rules R177 and R221.
-/
namespace Sys2Proof.Machine

/-- Debounce (R101): the next record, and the duration of a cycle this fine tick completes.
`pinN` is the sampled level: `false` is pressed (pull-up, R35). -/
def debounce (heldW : Nat) (db : ButtonObservation) (pinN : Bool) : ButtonObservation × Option Nat :=
  let active := !pinN
  let held := if active then satInc heldW db.held else db.held
  let pressed := if active then true else db.pressed
  let released := if !active && decide (Config.debounceFloor ≤ held) then true else db.released
  if pressed && released then (ButtonObservation.clear, some held)
  else ({ pressed := pressed, released := released, held := held }, none)

/-- The fault indicator `sensor_fault`: "not a separate register; it is the condition `ps = Error`" (R27, R36). -/
def sensorFault (s : State) : Bool := s.session.ps == .error

/-- The cause code of R240: 1 is BusNack, 0 is no fault; it is stored nowhere. -/
def faultCause (s : State) : Nat := if sensorFault s then 1 else 0

/-- Ready (R186), under the parameter pair READY_MASK and READY_WHEN_SET. -/
def ready (p : Params) (b : Byte) : Bool :=
  if p.readyWhenSet then b &&& p.readyMask != 0#8 else b &&& p.readyMask == 0#8

end Sys2Proof.Machine
end

