-- ==== Sys2Proof/Machine/Buttons.lean ====
section
/-!
DEFINITION. The fine-tick operation and its branches: the two debouncers, the press-duration classification, the
mode-navigation FSM with its idle timeout (spec/40_press_decoder_mode.md R100 to R114) and the digit-increment FSM
(spec/41_digit_increment_clock.md R140 to R148).
-/
namespace Sys2Proof.Machine

/-- Whether a duration lies in one of R7's ranges, bounds included. -/
def inRange (r : Nat × Nat) (d : Nat) : Bool := decide (r.1 ≤ d) && decide (d ≤ r.2)

/-- PressAction (R103): the labels of the table's rows. It is never persisted and has no observable effect. -/
inductive PressAction where
  | noAction
  | shortDurationEvent
  | longDurationEvent
  | veryShortDurationEvent
deriving DecidableEq, Repr

/-- The label of a completed duration in a mode (R103). -/
def pressAction (m : Mode) (d : Nat) : PressAction :=
  match m with
  | .showTemperature =>
    if inRange Config.aStShort d then .shortDurationEvent
    else if inRange Config.aStLong d then .longDurationEvent
    else .noAction
  | .showClock => .noAction
  | .editHours => if inRange Config.aEdit d then .veryShortDurationEvent else .noAction
  | .editMinutes => if inRange Config.aEdit d then .veryShortDurationEvent else .noAction

/-- Classify (R104, R105): the next mode after a completed button-A cycle of duration `d`. -/
def classify (m : Mode) (d : Nat) : Mode :=
  match m with
  | .showTemperature =>
    if inRange Config.aStShort d then .showClock
    else if inRange Config.aStLong d then .editHours
    else .showTemperature
  | .editHours => if inRange Config.aEdit d then .editMinutes else .editHours
  | .editMinutes => if inRange Config.aEdit d then .showTemperature else .editMinutes
  | .showClock => .showClock

/-- IdleTimeout (R112): one fine tick in ShowClock. -/
def idleTimeout (n : Navigation) : Navigation :=
  if h : n.idleCnt.val + 1 < Config.idleTimeout then { n with idleCnt := ⟨n.idleCnt.val + 1, h⟩ }
  else { mode := .showTemperature, idleCnt := 0 }

/-- The mode FSM's part of FineTick (R100): the timeout in ShowClock, else MODE_DECODE (R106) on a completed cycle. -/
def navigate (n : Navigation) (durA : Option Nat) : Navigation :=
  if n.mode = .showClock then idleTimeout n
  else match durA with
    | some d => { n with mode := classify n.mode d }
    | none => n

/-- FineTick (R100): every part reads the pre-state, and the fields are written at once (R12). No command is issued. -/
def fineTick (pa pb : Bool) (s : State) : State :=
  let a := debounce s.params.heldW s.dbA pa
  let b := debounce s.params.heldW s.dbB pb
  { s with
    dbA := a.1
    dbB := b.1
    nav := navigate s.nav a.2
    clock := digitIncrement s.nav.mode b.2 s.clock
    cmd := BusCommand.none }

/-- FINE_TICK (R100). -/
def execFineTick (pa pb : Bool) (s : State) : Result := .next (fineTick pa pb s)

/-- FINE_A_ACTIVE (R101): the fine tick whose button-A pin is low, so that Debounce takes its active branch for A.
Every word of this row is also a FINE_TICK word, and the cycle is that one fine tick (R73, R100). -/
def execFineAActive (pb : Bool) (s : State) : Result := .next (fineTick false pb s)

/-- FINE_A_INACTIVE (R101): the fine tick whose button-A pin is high, so that Debounce takes its inactive branch for A. -/
def execFineAInactive (pb : Bool) (s : State) : Result := .next (fineTick true pb s)

/-- FINE_B_ACTIVE (R141): the fine tick whose button-B pin is low. -/
def execFineBActive (pa : Bool) (s : State) : Result := .next (fineTick pa false s)

/-- FINE_B_INACTIVE (R141): the fine tick whose button-B pin is high. -/
def execFineBInactive (pa : Bool) (s : State) : Result := .next (fineTick pa true s)

end Sys2Proof.Machine
end

