-- ==== Sys2Proof/Machine/Commands.lean ====
section
/-!
DEFINITION. The bus-command rows (spec/30_encoding.md R75 to R79). A command word is what `cmd_*` carry to the bus
collaborator, so the meaning of a command row is R76's: the collaborator is told the source operations the kind stands for,
with the word's own ADDR and DATA. The block itself has an IDLE cycle, and no other field of it changes (R34, R72).
What the collaborator then does on the wire is outside the block (spec/00_scope.md R5, R6).
-/
namespace Sys2Proof.Machine

/-- SEND_SINGLE: setSlaveAddress(ADDR, false); putByte(DATA); startCommand(single send) (R76). -/
def execSendSingle (addr : BusAddr) (data : Byte) (s : State) : Result :=
  .next (noCommand (receiveCommand .sendSingle addr data s))

/-- SEND_START: setSlaveAddress(ADDR, false); putByte(DATA); startCommand(burst send start) (R76). -/
def execSendStart (addr : BusAddr) (data : Byte) (s : State) : Result :=
  .next (noCommand (receiveCommand .sendStart addr data s))

/-- SEND_CONT: "`KIND = 0b010` (SEND_CONT) is reserved. No rule issues it, so the block never emits it" (R78). -/
def execSendCont (_addr : BusAddr) (_data : Byte) (_s : State) : Result := .refused .reservedCommandKind

/-- SEND_FINISH: putByte(DATA); startCommand(burst send finish) (R76). -/
def execSendFinish (addr : BusAddr) (data : Byte) (s : State) : Result :=
  .next (noCommand (receiveCommand .sendFinish addr data s))

/-- RECV_SINGLE: setSlaveAddress(ADDR, true); startCommand(single receive) (R76). -/
def execRecvSingle (addr : BusAddr) (data : Byte) (s : State) : Result :=
  .next (noCommand (receiveCommand .recvSingle addr data s))

/-- RECV_START: setSlaveAddress(ADDR, true); startCommand(burst receive start) (R76). -/
def execRecvStart (addr : BusAddr) (data : Byte) (s : State) : Result :=
  .next (noCommand (receiveCommand .recvStart addr data s))

/-- RECV_CONT: startCommand(burst receive continue) (R76). -/
def execRecvCont (addr : BusAddr) (data : Byte) (s : State) : Result :=
  .next (noCommand (receiveCommand .recvCont addr data s))

/-- RECV_FINISH: startCommand(burst receive finish) (R76). -/
def execRecvFinish (addr : BusAddr) (data : Byte) (s : State) : Result :=
  .next (noCommand (receiveCommand .recvFinish addr data s))

end Sys2Proof.Machine
end

