-- ==== Sys2Proof/Machine/Control.lean ====
section
/-!
DEFINITION. The block reset (spec/70_reset_and_hazards.md R270, R271) and the idle cycle (spec/30_encoding.md R72).
-/
namespace Sys2Proof.Machine

/-- RST (R270): the whole step (R271). -/
def execRst (s : State) : Result := .next (resetBlock s)

/-- IDLE (R72): "It changes no state except `cmd <- NONE`". -/
def execIdle (s : State) : Result := .next (noCommand s)

end Sys2Proof.Machine
end

