-- ==== Sys2Proof/Machine/Compensation.lean ====
section
/-!
DEFINITION. The compensation pipeline (spec/43_compensation_average.md R210 to R215) and the sample window with its
stale-average policy (R220 to R224). All arithmetic is on mathematical integers and is exact (R211).
-/
namespace Sys2Proof.Machine

/-- `var1` of R210. -/
def compVar1 (raw t1 t2 : Int) : Int := floorShift ((floorShift raw 3 - leftShift t1 1) * t2) 11

/-- `d` of R210. -/
def compD (raw t1 : Int) : Int := floorShift raw 4 - t1

/-- `var2` of R210. -/
def compVar2 (raw t1 t3 : Int) : Int := floorShift (floorShift (compD raw t1 * compD raw t1) 12 * t3) 14

/-- `tfine` of R210. -/
def compTfine (raw t1 t2 t3 : Int) : Int := compVar1 raw t1 t2 + compVar2 raw t1 t3

/-- `tc` of R210: the temperature in 0.01 degC before the trim and the clamp. -/
def compTc (raw t1 t2 t3 : Int) : Int := floorShift (compTfine raw t1 t2 t3 * 5 + 128) 8

/-- Compensate (R210), with the trim offset TRIM_CENTI of R213 as its last operand. -/
def compensate (raw t1 t2 t3 trim : Int) : Int := clamp (compTc raw t1 t2 t3 + trim) Config.tempMin Config.tempMax

/-- The compensated sample of an acquisition: the raw code and the constants as integers (R185, R210), stored as R82 says. -/
def compensatedSample (p : Params) (c : Calibration) (raw : RawCode) : Reg16 :=
  toReg16 (compensate raw.toNat (zext16 c.t1) (sext16 c.t2) (sext16 c.t3) (sext16 p.trimCenti))

/-- The sum of the ten samples (R221). -/
def windowSum (w : Vector Reg16 10) : Int := (w.toList.map sext16).sum

/-- PublishAverage (R221): the mean, truncated toward zero. -/
def meanOf (w : Vector Reg16 10) : Reg16 := toReg16 (truncDiv (windowSum w) (Config.windowN : Int))

/-- WindowAppend (R220): the sample goes to the cursor's slot; the tenth since the last publication publishes the mean over
the window with this step's write and resets the cursor. -/
def windowAppend (t : Reg16) (w : SampleWindow) : SampleWindow :=
  let win := w.win.set w.count.val t w.count.isLt
  if h : w.count.val + 1 < Config.windowN then { w with win := win, count := ⟨w.count.val + 1, h⟩ }
  else { win := win, count := 0, avg := meanOf win, avgValid := true }

end Sys2Proof.Machine
end

