-- ==== Sys2Proof/Machine/Sensor.lean ====
section
/-!
DEFINITION. The sensor protocol engine (spec/42_sensor_protocol.md R170 to R189): one definition per rule, the dispatch by
`ps`, and the meanings of COARSE_TICK, BUS_OK, BUS_NACK and SRST.
-/
namespace Sys2Proof.Machine

/-- The set IDLE of R30: the states that wait for a coarse tick. -/
def ProtocolState.isIdle : ProtocolState → Bool
  | .readCalibration | .configFinished => true
  | .writeCalibration | .adcStatusConfig | .adcStatus | .adcWaitForMeasureFinish | .adcStartReading
  | .adcReadingInProgress | .error => false

/-- The set WAITING of R30: the states that wait for a bus event. -/
def ProtocolState.isWaiting : ProtocolState → Bool
  | .writeCalibration | .adcStatusConfig | .adcStatus | .adcWaitForMeasureFinish | .adcStartReading
  | .adcReadingInProgress => true
  | .readCalibration | .configFinished | .error => false

/-! ### Coarse ticks -/

/-- R174: point at the first calibration register. -/
def startCalibration (s : State) : State :=
  issue .sendSingle s.params.regCalib (setSession .writeCalibration 0 0 s)

/-- R179: the first byte of the control-register write starts an acquisition cycle. -/
def startAcquisition (s : State) : State :=
  issue .sendStart s.params.regCtrlMeas (setSession .adcStatusConfig 0 0 s)

/-- CoarseStep (R171) by `ps`; a coarse tick in WAITING or Error is dropped (R172 (a)). -/
def coarseStep (s : State) : State :=
  match s.session.ps with
  | .readCalibration => startCalibration s
  | .configFinished => startAcquisition s
  | .writeCalibration | .adcStatusConfig | .adcStatus | .adcWaitForMeasureFinish | .adcStartReading
  | .adcReadingInProgress | .error => noCommand s

/-! ### Bus events -/

/-- R175: the pointer write has completed; start the calibration burst. -/
def startCalibrationBurst (s : State) : State :=
  issue .recvStart 0#8 (setSession .writeCalibration s.session.byteIndex 1 s)

/-- R177, CalibrationDone, from the state whose scratch holds the sixth byte. -/
def calibrationDone (s : State) : State :=
  noCommand (setSession .configFinished 0 0 (setCalibration (calAssemble s.session.scratch) s))

/-- R176 after the byte is stored: count it, and ask for the next one, the last with RECV_FINISH. -/
def nextCalibrationByte (s : State) : Result :=
  if h : s.session.byteIndex.val + 1 < 7 ∧ s.session.burstCnt.val + 1 < 7 then
    .next (issue (if s.session.byteIndex.val + 1 = 5 then .recvFinish else .recvCont) 0#8
      (setSession .writeCalibration ⟨s.session.byteIndex.val + 1, h.1⟩ ⟨s.session.burstCnt.val + 1, h.2⟩ s))
  else .refused .unreachableSession

/-- R176: collect one calibration byte. -/
def collectCalibrationByte (rdata : Byte) (s : State) : Result :=
  andThen (writeScratch s.session.byteIndex rdata s) fun t =>
    if t.session.byteIndex.val + 1 = Config.calBytes then .next (calibrationDone t) else nextCalibrationByte t

/-- R180: the first byte of the control write has completed; send the value byte. -/
def sendControlValue (s : State) : State :=
  issue .sendFinish s.params.ctrlMeasValue (setSession .adcStatus s.session.byteIndex s.session.burstCnt s)

/-- R181 and the self-loop of R183: point at the status register. -/
def pointAtStatus (s : State) : State :=
  issue .sendSingle s.params.regStatus (setSession .adcWaitForMeasureFinish s.session.byteIndex 0 s)

/-- R182: read the status byte. -/
def readStatus (s : State) : State :=
  issue .recvSingle 0#8 (setSession .adcWaitForMeasureFinish s.session.byteIndex 1 s)

/-- R183: the ready test, then the temperature pointer or another poll. -/
def testStatus (rdata : Byte) (s : State) : State :=
  if ready s.params rdata then
    issue .sendSingle s.params.regTemp (setSession .adcStartReading s.session.byteIndex 0 s)
  else pointAtStatus s

/-- R184: start the burst read of the two raw bytes. -/
def startRawBurst (s : State) : State := issue .recvStart 0#8 (setSession .adcReadingInProgress 0 1 s)

/-- R185, the first raw byte: ask for the second and last. -/
def nextRawByte (s : State) : State := issue .recvFinish 0#8 (setSession .adcReadingInProgress 1 2 s)

/-- R185, both raw bytes stored: compensate, append the sample (and publish at the tenth), and end the cycle. -/
def finishAcquisition (s : State) : State :=
  noCommand (setSession .configFinished 0 0
    (setWindow (windowAppend (compensatedSample s.params s.cal (rawAssemble s.session.scratch)) s.window) s))

/-- R185: one raw temperature byte. -/
def collectRawByte (rdata : Byte) (s : State) : Result :=
  andThen (writeScratch s.session.byteIndex rdata s) fun t =>
    .next (if t.session.byteIndex.val = 0 then nextRawByte t else finishAcquisition t)

/-- BusStep (R171, R175 to R185) by `ps`: a completed command without a NACK.
In IDLE and in Error the event is ignored (R172 (b)). -/
def busStep (rdata : Byte) (s : State) : Result :=
  match s.session.ps with
  | .writeCalibration =>
    if s.session.burstCnt.val = 0 then .next (startCalibrationBurst s) else collectCalibrationByte rdata s
  | .adcStatusConfig => .next (sendControlValue s)
  | .adcStatus => .next (pointAtStatus s)
  | .adcWaitForMeasureFinish =>
    if s.session.burstCnt.val = 0 then .next (readStatus s)
    else if s.session.burstCnt.val = 1 then .next (testStatus rdata s)
    else .refused .unreachableSession
  | .adcStartReading => .next (startRawBurst s)
  | .adcReadingInProgress => collectRawByte rdata s
  | .readCalibration | .configFinished | .error => .next (noCommand s)

/-! ### The meanings -/

/-- COARSE_TICK (R171, R174, R179). -/
def execCoarseTick (s : State) : Result := .next (coarseStep s)

/-- BUS_OK (R171, R175 to R185). "DRDY (dataReady) and STOP (stopReceived) are accepted, and no rule of this spec reads
them" (R74). -/
def execBusOk (rdata : Byte) (_drdy _stop : Bool) (s : State) : Result := busStep rdata s

/-- BUS_NACK (R171, R241): it takes the exception in every state but Error, where it is ignored (R172 (c), R247). -/
def execBusNack (s : State) : Result :=
  .next (if s.session.ps = .error then noCommand s else raiseBusNack s)

/-- SRST (R246): it acts in every protocol state. -/
def execSrst (s : State) : Result := .next (engineReset s)

end Sys2Proof.Machine
end

