-- ==== Sys2Proof/Machine/Dispatch.lean ====
section
/-!
DEFINITION. One arm per constructor of Instr. An arm is the whole effect of a cycle that selects that one operation,
the write of `cmd` included (spec/00_scope.md R13).
-/
namespace Sys2Proof.Machine
open Sys2Proof

def exec (i : Instr) (s : State) : Host.Outcome State Fault Refusal :=
  match i with
  | .rst => Sys2Proof.Machine.execRst s
  | .srst => Sys2Proof.Machine.execSrst s
  | .secTick => Sys2Proof.Machine.execSecTick s
  | .fineTick pa pb => Sys2Proof.Machine.execFineTick pa pb s
  | .fineAActive pb => Sys2Proof.Machine.execFineAActive pb s
  | .fineAInactive pb => Sys2Proof.Machine.execFineAInactive pb s
  | .fineBActive pa => Sys2Proof.Machine.execFineBActive pa s
  | .fineBInactive pa => Sys2Proof.Machine.execFineBInactive pa s
  | .busNack => Sys2Proof.Machine.execBusNack s
  | .busOk rdata drdy stop => Sys2Proof.Machine.execBusOk rdata drdy stop s
  | .coarseTick => Sys2Proof.Machine.execCoarseTick s
  | .idle => Sys2Proof.Machine.execIdle s
  | .sendSingle addr data => Sys2Proof.Machine.execSendSingle addr data s
  | .sendStart addr data => Sys2Proof.Machine.execSendStart addr data s
  | .sendCont addr data => Sys2Proof.Machine.execSendCont addr data s
  | .sendFinish addr data => Sys2Proof.Machine.execSendFinish addr data s
  | .recvSingle addr data => Sys2Proof.Machine.execRecvSingle addr data s
  | .recvStart addr data => Sys2Proof.Machine.execRecvStart addr data s
  | .recvCont addr data => Sys2Proof.Machine.execRecvCont addr data s
  | .recvFinish addr data => Sys2Proof.Machine.execRecvFinish addr data s

end Sys2Proof.Machine
end

