-- ==== Sys2Proof/Machine/Cycle.lean ====
section
/-!
DEFINITION. One clock cycle: sampling the ports, choosing the operations the set event bits select
(spec/30_encoding.md R72, spec/42_sensor_protocol.md R171), and running them in R72's order within the one step.
-/
namespace Sys2Proof.Machine

/-- The sensor-engine operation of a cycle without RST, in R171's order of tests: SRST; a NACK outside Error; a bus event in
WAITING; a coarse tick in IDLE.
Where none of these applies, an event that stands is one the engine ignores (R172), and its operation does nothing. -/
def engineOperation (ps : ProtocolState) (p : InputPorts) : List Instr :=
  if p.srst then [.srst]
  else if p.busEvt && p.busNack && ps != .error then [.busNack]
  else if p.busEvt && ps.isWaiting then [.busOk p.busRdata p.busDataReady p.busStop]
  else if p.coarse && ps.isIdle then [.coarseTick]
  else if p.busEvt then [if p.busNack then .busNack else .busOk p.busRdata p.busDataReady p.busStop]
  else if p.coarse then [.coarseTick]
  else []

/-- The operations of a cycle, in R72's order: RST alone; else SEC_TICK, FINE_TICK and one sensor-engine operation; IDLE
where no event bit is set. -/
def operations (ps : ProtocolState) (p : InputPorts) : List Instr :=
  if p.rst then [.rst]
  else if p.sec || p.fine || p.coarse || p.busEvt || p.srst then
    (if p.sec then [.secTick] else []) ++ (if p.fine then [.fineTick p.btnAN p.btnBN] else []) ++ engineOperation ps p
  else [.idle]

/-- Run operations one after another.
SEC_TICK, FINE_TICK and the engine write disjoint fields, but for ClockTime, where R152 wants this order, and `cmd`, which the
engine's operation writes last; so this is R12's one step from the pre-state (assumption 3). -/
def runAll : List Instr → State → Result
  | [], s => .next s
  | i :: is, s => andThen (exec i s) (runAll is)

/-- One clock cycle with these ports (R3, R72). -/
def cycle (p : InputPorts) (s : State) : Result := runAll (operations s.session.ps p) s

/-- Run the word of one cycle, in which the bus collaborator also captures the command the block shows: an input word's
cycle, or a cycle in which the collaborator is handed a command word besides (assumption 2). -/
def runWord : PortWord → State → Result
  | .input w, s => cycle (portsOf w) (captureCommand s)
  | .command w, s => exec (decodeCommand w) (captureCommand s)

/-- Sample the ports: the script's first word, and the state without it. An exhausted script is IDLE cycles (R87). -/
def fetch (s : State) : PortWord × State :=
  match s.script with
  | [] => (.input (inputWordOf quietPorts), s)
  | w :: rest => (w, { s with script := rest })

/-- The port word of a table word: the format is the one its number of table bits belongs to (R73, R75). -/
def tablePortWord (nbits w : Nat) : PortWord :=
  if isCommandWidth nbits then .command (BitVec.ofNat 18 w) else .input (BitVec.ofNat 19 w)

/-- Put a word on the ports for the next cycle, before all that were to come. -/
def pushWord (w : PortWord) (s : State) : State := { s with script := w :: s.script }

end Sys2Proof.Machine
end

