-- ==== Sys2Proof/Machine/Step.lean ====
section
/-!
DEFINITION. The step: one rising edge of `clk` (spec/00_scope.md R3). All that a test could show wrong stands in Cycle.lean.
-/
namespace Sys2Proof.Machine

/-- One rising edge: sample the ports, then run the cycle. -/
def step (s : State) : Host.Outcome State Fault Refusal := runWord (fetch s).1 (fetch s).2

/-- `s` with a table word on the ports for the next cycle. -/
def State.withFetchWord (s : State) (nbits w : Nat) : State := pushWord (tablePortWord nbits w) s

end Sys2Proof.Machine
end

