-- ==== Sys2Proof/Machine/Outputs.lean ====
section
/-!
DEFINITION. The output ports (spec/10_state.md R36), "a function of the state `S` alone", and the encodings they carry
(R23, R30, R84).
-/
namespace Sys2Proof.Machine

/-- The encoding of `mode` (R23). -/
def modeBits : Mode → BitVec 2
  | .showTemperature => 0b00#2
  | .showClock => 0b01#2
  | .editHours => 0b10#2
  | .editMinutes => 0b11#2

/-- The encoding of `ps` (R30). -/
def protocolBits : ProtocolState → BitVec 4
  | .readCalibration => 0#4
  | .writeCalibration => 1#4
  | .configFinished => 2#4
  | .adcStatusConfig => 3#4
  | .adcStatus => 4#4
  | .adcWaitForMeasureFinish => 5#4
  | .adcStartReading => 6#4
  | .adcReadingInProgress => 7#4
  | .error => 8#4

/-- The output ports of R36. -/
structure Outputs where
  modeO : BitVec 2
  dispReq : Bool
  hoursO : BitVec 5
  minutesO : BitVec 6
  secondsO : BitVec 6
  avgTemp : Reg16
  avgValid : Bool
  sensorFault : Bool
  sensorState : BitVec 4
  cmdValid : Bool
  cmdKind : BitVec 3
  cmdAddr : BusAddr
  cmdData : Byte
deriving DecidableEq, Repr

/-- The display request: 0 is "show temperature", 1 is "show hours:minutes" (R36). -/
def displayRequest (m : Mode) : Bool := m != .showTemperature

/-- The value of every output port in a state (R36). -/
def outputs (s : State) : Outputs :=
  { modeO := modeBits s.nav.mode
    dispReq := displayRequest s.nav.mode
    hoursO := BitVec.ofNat 5 s.clock.hh.val
    minutesO := BitVec.ofNat 6 s.clock.mm.val
    secondsO := BitVec.ofNat 6 s.clock.ss.val
    avgTemp := s.window.avg
    avgValid := s.window.avgValid
    sensorFault := sensorFault s
    sensorState := protocolBits s.session.ps
    cmdValid := s.cmd.valid
    cmdKind := s.cmd.kind
    cmdAddr := s.cmd.addr
    cmdData := s.cmd.data }

/-- The command word on the ports: `CMDW` of R75. -/
def outputCommandWord (s : State) : CommandWord := commandWordOf s.cmd.kind s.cmd.addr s.cmd.data

end Sys2Proof.Machine
end

