-- ==== Sys2Proof/Machine/Script.lean ====
section
/-!
DEFINITION. The event-script notation and its pseudo-events (spec/30_encoding.md R87 to R89), as data:
a line is the bundle of events of one clock cycle.
-/
namespace Sys2Proof.Machine

/-- The events of R87. `a` and `b` give PA and PB, `data` gives RDATA. -/
inductive Event where
  | rst
  | srst
  | sec
  | coarse
  | idle
  | fine (a b : Bool)
  | busOk (data : Byte)
  | busNack (data : Byte)
deriving DecidableEq, Repr

/-- The ports with one more event of the bundle present (R88).
DESIGN CHOICE (assumption 18): R87's grammar allows two FINE or two BUS events in one bundle, and no rule says whose arguments
or whose NACK the word carries. Here the last of them in the bundle gives all of them. Unsafe for such a bundle only. -/
def addEvent (p : InputPorts) : Event → InputPorts
  | .rst => { p with rst := true }
  | .srst => { p with srst := true }
  | .sec => { p with sec := true }
  | .coarse => { p with coarse := true }
  | .idle => p
  | .fine a b => { p with fine := true, btnAN := a, btnBN := b }
  | .busOk data => { p with busEvt := true, busNack := false, busRdata := data }
  | .busNack data => { p with busEvt := true, busNack := true, busRdata := data }

/-- The ports of a line; what no event gives has R87's default. -/
def linePorts (line : List Event) : InputPorts := line.foldl addEvent quietPorts

/-- The input word of a line (R88). -/
def lineWord (line : List Event) : InputWord := inputWordOf (linePorts line)

/-- The port words of a script, one line a cycle. -/
def scriptWords (lines : List (List Event)) : List PortWord := lines.map (fun l => .input (lineWord l))

/-- `PRESS_A n` (R89). -/
def pressA (n : Nat) : List (List Event) := List.replicate n [.fine false true] ++ [[.fine true true]]

/-- `PRESS_B n` (R89). -/
def pressB (n : Nat) : List (List Event) := List.replicate n [.fine true false] ++ [[.fine true true]]

/-- `WAIT_FINE n` (R89). -/
def waitFine (n : Nat) : List (List Event) := List.replicate n [.fine true true]

/-- `CAL b0 b1 b2 b3 b4 b5` (R89): one calibration read, eight cycles. -/
def calEvents (b0 b1 b2 b3 b4 b5 : Byte) : List (List Event) :=
  [[.coarse], [.busOk 0#8], [.busOk b0], [.busOk b1], [.busOk b2], [.busOk b3], [.busOk b4], [.busOk b5]]

/-- `ACQ r0 r1 polls=k` (R89): one acquisition with `k` not-ready status polls, `8 + 2k` cycles. -/
def acqEvents (r0 r1 : Byte) (polls : Nat) : List (List Event) :=
  [[.coarse], [.busOk 0#8], [.busOk 0#8], [.busOk 0#8]]
    ++ (List.replicate polls [[Event.busOk 0x00#8], [Event.busOk 0#8]]).flatten
    ++ [[.busOk 0x01#8], [.busOk 0#8], [.busOk r0], [.busOk r1]]

end Sys2Proof.Machine
end

