-- ==== Sys2Proof/Machine/WholeCycle.lean ====
section
/-!
DEFINITION. The spec's own reading of a cycle as one assignment from the pre-state (spec/00_scope.md R12): ClockStep
(spec/41_digit_increment_clock.md R152), SensorStep (spec/42_sensor_protocol.md R171) and FineTick
(spec/40_press_decoder_mode.md R100) side by side. `step` is not defined through it; statements compare the two.
-/
namespace Sys2Proof.Machine

/-- ClockStep (R152): the advance first, then the digit increment. -/
def clockStep (p : InputPorts) (s : State) : ClockTime :=
  let t1 := if p.sec then advance s.clock else s.clock
  if p.fine then digitIncrement s.nav.mode (debounce s.params.heldW s.dbB p.btnBN).2 t1 else t1

/-- SensorStep (R171): exactly one arm applies. -/
def sensorStep (p : InputPorts) (s : State) : Result :=
  if p.srst then .next (engineReset s)
  else if p.busEvt && p.busNack && s.session.ps != .error then .next (raiseBusNack s)
  else if p.busEvt && s.session.ps.isWaiting then busStep p.busRdata s
  else if p.coarse && s.session.ps.isIdle then .next (coarseStep s)
  else .next (noCommand s)

/-- The whole next state of a cycle, every field from the pre-state (R12, R57, R72). -/
def wholeCycle (p : InputPorts) (s : State) : Result :=
  if p.rst then .next (resetBlock s)
  else andThen (sensorStep p s) fun t =>
    .next { t with
      dbA := if p.fine then (debounce s.params.heldW s.dbA p.btnAN).1 else s.dbA
      dbB := if p.fine then (debounce s.params.heldW s.dbB p.btnBN).1 else s.dbB
      nav := if p.fine then navigate s.nav (debounce s.params.heldW s.dbA p.btnAN).2 else s.nav
      clock := clockStep p s }

end Sys2Proof.Machine
end

