-- ==== Sys2Proof/Safety.lean ====
section
/-!
DEFINITION. What counts as a good state and a correct run, in the terms the statements use: the invariants of
spec/10_state.md R38, the command words of spec/30_encoding.md R79, and the host's bus duties
(spec/60_exceptions.md R263, spec/70_reset_and_hazards.md R280).
-/
namespace Sys2Proof.Machine

/-- R38 (b): `idleCnt = 0` unless `mode = ShowClock`; that it is at most 299 is its type. -/
abbrev NavigationOk (n : Navigation) : Prop := n.mode ≠ .showClock → n.idleCnt = 0

/-- R38 (c), and that `held` fits its HELD_W bits (R25). -/
abbrev ButtonOk (heldW : Nat) (db : ButtonObservation) : Prop :=
  db.released = false ∧ (db.pressed = true ↔ 1 ≤ db.held) ∧ db.held ≤ 2 ^ heldW - 1

/-- R38 (f) and (g), sharpened by what R29 says `burstCnt` counts.
In Error the counters are what the NACK found (R242), so R38 (f)'s "0 in every other state" is not asked there
(assumption 5). -/
def SessionOk (ss : SensorSession) : Bool :=
  match ss.ps with
  | .writeCalibration =>
    decide (ss.byteIndex.val ≤ 5) &&
      (decide (ss.burstCnt.val = ss.byteIndex.val + 1) ||
        decide (ss.burstCnt.val = 0) && decide (ss.byteIndex.val = 0))
  | .adcWaitForMeasureFinish => decide (ss.byteIndex.val = 0) && decide (ss.burstCnt.val ≤ 1)
  | .adcReadingInProgress =>
    decide (ss.byteIndex.val ≤ 1) && decide (ss.burstCnt.val = ss.byteIndex.val + 1)
  | .error => decide (ss.byteIndex.val ≤ 5)
  | .readCalibration | .configFinished | .adcStatusConfig | .adcStatus | .adcStartReading =>
    decide (ss.byteIndex.val = 0) && decide (ss.burstCnt.val = 0)

/-- R38 (f) word for word, Error included. A NACK in a burst leads out of it, because R242 keeps `byteIndex` (assumption 5). -/
abbrev IndexOk (ss : SensorSession) : Prop :=
  (ss.ps = .writeCalibration → ss.byteIndex.val ≤ 5) ∧
  (ss.ps = .adcReadingInProgress → ss.byteIndex.val ≤ 1) ∧
  (ss.ps ≠ .writeCalibration → ss.ps ≠ .adcReadingInProgress → ss.byteIndex = 0)

/-- The states of R38 (h): the calibration is complete in ConfigFinished and in every acquisition state. -/
def ProtocolState.isAfterCalibration : ProtocolState → Bool
  | .configFinished | .adcStatusConfig | .adcStatus | .adcWaitForMeasureFinish | .adcStartReading
  | .adcReadingInProgress => true
  | .readCalibration | .writeCalibration | .error => false

/-- The states of a calibration read, entered only while `calValid = 0` (R178). -/
def ProtocolState.isCalibrating : ProtocolState → Bool
  | .readCalibration | .writeCalibration => true
  | .configFinished | .adcStatusConfig | .adcStatus | .adcWaitForMeasureFinish | .adcStartReading
  | .adcReadingInProgress | .error => false

/-- R38 (h), and R178: a completed calibration is never read again. -/
abbrev CalibrationOk (ss : SensorSession) (c : Calibration) : Prop :=
  (ss.ps.isAfterCalibration = true → c.calValid = true) ∧ (ss.ps.isCalibrating = true → c.calValid = false)

/-- A temperature within the clamp, [-4000, 8500] in 0.01 degC (R82). -/
abbrev SampleOk (r : Reg16) : Prop := Config.tempMin ≤ sext16 r ∧ sext16 r ≤ Config.tempMax

/-- R38 (i). -/
abbrev WindowOk (w : SampleWindow) : Prop := (∀ i : Fin 10, SampleOk w.win[i]) ∧ SampleOk w.avg

/-- The invariants of R38 (those its types do not hold already), with R8's parameter ranges. -/
structure State.Inv (s : State) : Prop where
  params : s.params.wf
  navigation : NavigationOk s.nav
  buttonA : ButtonOk s.params.heldW s.dbA
  buttonB : ButtonOk s.params.heldW s.dbB
  session : SessionOk s.session = true
  calibration : CalibrationOk s.session s.cal
  window : WindowOk s.window

/-- The (kind, data) pairs of R79. -/
def emittablePairs (p : Params) : List (BitVec 3 × Byte) :=
  [ (CommandKind.sendSingle.bits, p.regCalib),
    (CommandKind.recvStart.bits, 0#8),
    (CommandKind.recvCont.bits, 0#8),
    (CommandKind.recvFinish.bits, 0#8),
    (CommandKind.sendStart.bits, p.regCtrlMeas),
    (CommandKind.sendFinish.bits, p.ctrlMeasValue),
    (CommandKind.sendSingle.bits, p.regStatus),
    (CommandKind.recvSingle.bits, 0#8),
    (CommandKind.sendSingle.bits, p.regTemp) ]

/-- A command register R77 to R79 allow: NONE, or a command of R79's list to SLAVE_ADDR. -/
abbrev CommandOk (p : Params) (c : BusCommand) : Prop :=
  c = BusCommand.none ∨ (c.valid = true ∧ c.addr = p.slaveAddr ∧ (c.kind, c.data) ∈ emittablePairs p)

/-- The word `step` runs next is not the reserved command (R78). -/
def NextWordAllowed (s : State) : Prop := ∀ i ∈ Sys2Proof.decodeWord (fetch s).1, i.kindAllowed = true

/-- Whether a bus command is outstanding after a cycle with these ports that ended in `after`, by R280:
a completion answers it, an issued command starts one.
`none` where the host broke its duty: a `bus_evt` with no command outstanding (R280 (d), R263).
DESIGN CHOICE (assumption 20): SRST and RST can leave a command outstanding while a later coarse tick issues a second, and the
spec does not say how overlapping commands count. This is one bit, so the first completion answers both, and a left-over one may
read as a broken duty. Unsafe for a claim about such a run. -/
def outstandingAfter (outstanding : Bool) (p : InputPorts) (after : State) : Option Bool :=
  if p.busEvt && !outstanding then none else some (after.cmd.valid || (outstanding && !p.busEvt))

/-- `s` with these input words on the ports, one a cycle, and IDLE cycles after them. -/
def onPorts (ws : List InputWord) (s : State) : State := { s with script := ws.map .input }

/-- The outcome of running the machine through these input words, one step each (R3). -/
def runWords (ws : List InputWord) (s : State) : Result := Sys2Proof.core.run ws.length (onPorts ws s)

/-- How many fine ticks a list of cycles holds. -/
def countFine (ws : List InputWord) : Nat := (ws.filter (fun w => (portsOf w).fine)).length

end Sys2Proof.Machine
end

