-- ==== Sys2Proof/Certificates/Slice0/Obligations.lean ====
section
/-!
DEFINITION. The statements for the provers, from the numbered rules of spec/. Each docstring names the rule it formalises.
A next state is written out in full wherever a statement is about one instruction, so the statement is the frame as well.
-/
open Sys2Proof Sys2Proof.Machine

/-! ### Encoding -/

/-- R70 to R79: every operation's word matches its own row, with every operand at every value, and every other row that word
matches (a fine tick has three names) means the same. That the FINE_A and FINE_B rows stand for the whole fine tick, so that the
three names mean the same, is the model's choice (assumption 4). -/
def Obligations.EncodedWordDecodesToItsInstruction : Prop :=
  ∀ i : Instr, i ∈ decodeWord (encode i) ∧ ∀ j ∈ decodeWord (encode i), ∀ s : State, exec j s = exec i s

/-- R75, R76: a command word decodes to the kind its bits [17:15] name with ADDR from bits [14:8] and DATA from bits [7:0], and
those fields are the whole word, for each of the 2^18 words. -/
def Obligations.CommandWordIsItsFields : Prop :=
  ∀ w : CommandWord,
    encode (decodeCommand w) = .command w ∧
    ∃ k : CommandKind, k.bits = w.extractLsb' 15 3 ∧
      decodeCommand w = commandInstr k (w.extractLsb' 8 7) (w.extractLsb' 0 8)

/-- R70: the input word is the concatenation of the ports, each at the bit R70's table gives it, and nothing else. -/
def Obligations.InputWordIsItsPorts : Prop :=
  (∀ w : InputWord,
    portsOf w =
      { sec := w.getLsbD 0, fine := w.getLsbD 1, coarse := w.getLsbD 2, busEvt := w.getLsbD 3, srst := w.getLsbD 4
        rst := w.getLsbD 5, busNack := w.getLsbD 6, busDataReady := w.getLsbD 7, busStop := w.getLsbD 8
        btnAN := w.getLsbD 9, btnBN := w.getLsbD 10, busRdata := w.extractLsb' 11 8 }) ∧
  (∀ p : InputPorts, portsOf (inputWordOf p) = p) ∧
  (∀ w : InputWord, inputWordOf (portsOf w) = w)

/-- R73: an input word matches a row exactly when its bits under the row's mask are the row's match value, with the operands
read from the bits R70 gives them; the twelve masks and match values are R73's, written out. -/
def Obligations.RowsMatchExactlyTheirMasks : Prop :=
  ∀ w : InputWord,
    (Instr.rst ∈ matchingRows w ↔ w &&& 0x020#19 = 0x020#19) ∧
    (Instr.srst ∈ matchingRows w ↔ w &&& 0x030#19 = 0x010#19) ∧
    (Instr.secTick ∈ matchingRows w ↔ w &&& 0x021#19 = 0x001#19) ∧
    (∀ pa pb, Instr.fineTick pa pb ∈ matchingRows w ↔
      w &&& 0x022#19 = 0x002#19 ∧ pa = w.getLsbD 9 ∧ pb = w.getLsbD 10) ∧
    (∀ pb, Instr.fineAActive pb ∈ matchingRows w ↔ w &&& 0x222#19 = 0x002#19 ∧ pb = w.getLsbD 10) ∧
    (∀ pb, Instr.fineAInactive pb ∈ matchingRows w ↔ w &&& 0x222#19 = 0x202#19 ∧ pb = w.getLsbD 10) ∧
    (∀ pa, Instr.fineBActive pa ∈ matchingRows w ↔ w &&& 0x422#19 = 0x002#19 ∧ pa = w.getLsbD 9) ∧
    (∀ pa, Instr.fineBInactive pa ∈ matchingRows w ↔ w &&& 0x422#19 = 0x402#19 ∧ pa = w.getLsbD 9) ∧
    (Instr.busNack ∈ matchingRows w ↔ w &&& 0x078#19 = 0x048#19) ∧
    (∀ rdata drdy stop, Instr.busOk rdata drdy stop ∈ matchingRows w ↔
      w &&& 0x078#19 = 0x008#19 ∧ rdata = w.extractLsb' 11 8 ∧ drdy = w.getLsbD 7 ∧ stop = w.getLsbD 8) ∧
    (Instr.coarseTick ∈ matchingRows w ↔ w &&& 0x034#19 = 0x004#19) ∧
    (Instr.idle ∈ matchingRows w ↔ w &&& 0x03F#19 = 0x000#19)

/-- R88, R79: words the spec writes out decode to the operations it says they are. -/
def Obligations.WrittenWordsDecode : Prop :=
  matchingRows 0x00620#19 = [.rst] ∧
  matchingRows 0x00610#19 = [.srst] ∧
  matchingRows 0x00601#19 = [.secTick] ∧
  matchingRows 0x00604#19 = [.coarseTick] ∧
  matchingRows 0x00648#19 = [.busNack] ∧
  matchingRows 0x36608#19 = [.busOk 0x6C#8 false false] ∧
  matchingRows 0x00402#19 = [.fineTick false true, .fineAActive true, .fineBInactive false] ∧
  matchingRows 0x00607#19 =
    [.secTick, .fineTick true true, .fineAInactive true, .fineBInactive true, .coarseTick] ∧
  decodeCommand 0x07688#18 = .sendSingle 0x76#7 0x88#8 ∧
  decodeCommand 0x0F6F4#18 = .sendStart 0x76#7 0xF4#8 ∧
  decodeCommand 0x1F621#18 = .sendFinish 0x76#7 0x21#8 ∧
  decodeCommand 0x27600#18 = .recvSingle 0x76#7 0x00#8 ∧
  decodeCommand 0x37600#18 = .recvCont 0x76#7 0x00#8

/-- R72, R73: what a cycle runs are rows its word matches: RST alone if it matches; else SEC_TICK and FINE_TICK whenever they
match, and exactly one sensor-engine row whenever one matches. -/
def Obligations.CycleRunsMatchingRows : Prop :=
  ∀ (ps : ProtocolState) (w : InputWord),
    (∀ i ∈ operations ps (portsOf w), i ∈ matchingRows w) ∧
    ((portsOf w).rst = true → operations ps (portsOf w) = [.rst]) ∧
    (Instr.secTick ∈ matchingRows w → Instr.secTick ∈ operations ps (portsOf w)) ∧
    (∀ pa pb, Instr.fineTick pa pb ∈ matchingRows w → Instr.fineTick pa pb ∈ operations ps (portsOf w)) ∧
    (Instr.idle ∈ matchingRows w → operations ps (portsOf w) = [.idle]) ∧
    ((∃ i ∈ matchingRows w, i = .srst ∨ i = .busNack ∨ i = .coarseTick ∨ ∃ r d t, i = .busOk r d t) →
      ((operations ps (portsOf w)).filter (fun i =>
        match i with
        | .srst | .busNack | .coarseTick | .busOk _ _ _ => true
        | _ => false)).length = 1)

/-! ### The step -/

/-- A step runs the decoded instruction: where a table word decodes to an operation, the step at the state with that word on
the ports is that operation's meaning, after the bus collaborator's capture of the command the state shows (R280 (a)). That
words come from a script (assumption 1), that a command word has a step of its own (assumption 2), that a word's format is read
from its number of table bits (assumption 11) and that the capture is part of the state (assumption 19) are the model's
choices. -/
def Obligations.StepRunsDecodedInstruction : Prop :=
  ∀ (s : State) (nbits w : Nat) (i : Instr),
    decodeTableWord nbits w = some i → step (s.withFetchWord nbits w) = exec i (captureCommand s)

/-- R3, R72, and the model's script (assumptions 1, 2 and 19): a step takes the script's first word, captures the command the
state shows, runs the operations that word selects, and leaves the rest; with no word left it runs an IDLE cycle. -/
def Obligations.StepTakesTheScriptsFirstWord : Prop :=
  ∀ s : State,
    (∀ w rest, s.script = .input w :: rest →
      step s = runAll (operations s.session.ps (portsOf w)) (captureCommand { s with script := rest })) ∧
    (∀ w rest, s.script = .command w :: rest →
      step s = exec (decodeCommand w) (captureCommand { s with script := rest })) ∧
    (s.script = [] → step s = exec .idle (captureCommand s))

/-- R12, R57, R60, R72, R152, R171: running a cycle's operations one after another is the spec's one assignment in which every
unit reads the pre-state, ClockTime advances before the digit stage, and one arm of SensorStep applies. The capture of the shown
command by the bus collaborator (assumption 19) writes no field of the block. -/
def Obligations.StepIsOneAssignmentFromThePreState : Prop :=
  ∀ (s : State) (w : InputWord) (rest : List PortWord), s.script = .input w :: rest →
    step s = wholeCycle (portsOf w) (captureCommand { s with script := rest })

/-- R71, R74: a field the cycle's event bits do not select cannot be told apart by the step, and DRDY and STOP never can. -/
def Obligations.DontCareFieldsDoNotMatter : Prop :=
  ∀ (s : State) (p q : InputPorts),
    p.sec = q.sec → p.fine = q.fine → p.coarse = q.coarse → p.busEvt = q.busEvt → p.srst = q.srst → p.rst = q.rst →
    (p.fine = true → p.btnAN = q.btnAN ∧ p.btnBN = q.btnBN) →
    (p.busEvt = true → p.busNack = q.busNack ∧ p.busRdata = q.busRdata) →
    cycle p s = cycle q s

/-- Every step takes one word off the script and changes no parameter (R275), whatever it runs. -/
def Obligations.StepsConsumeOneWordAndKeepParameters : Prop :=
  ∀ s t : State, step s = .next t → t.script = s.script.tail ∧ t.params = s.params

/-! ### Reset -/

/-- R270, R271: RST puts every field of the block at its reset value, whatever the state was, the outputs read as R270 says, and
a step with `rst = 1` is RST alone, whatever the other inputs are (the bus collaborator's record is not the block's,
assumption 19). -/
def Obligations.RstGivesTheResetState : Prop :=
  (∀ (s : State) (w : InputWord) (rest : List PortWord),
    s.script = .input w :: rest → (portsOf w).rst = true →
    step s = exec .rst (captureCommand { s with script := rest })) ∧
  ∀ s : State,
    ∃ t : State, exec .rst s = .next t ∧
      t = { params := s.params
            script := s.script
            nav := { mode := .showTemperature, idleCnt := 0 }
            dbA := { pressed := false, released := false, held := 0 }
            dbB := { pressed := false, released := false, held := 0 }
            clock := { hh := 0, mm := 0, ss := 0 }
            session := { ps := .readCalibration, byteIndex := 0, burstCnt := 0,
                         scratch := #v[0#8, 0#8, 0#8, 0#8, 0#8, 0#8] }
            cal := { t1 := 0#16, t2 := 0#16, t3 := 0#16, calValid := false }
            window := { win := #v[0#16, 0#16, 0#16, 0#16, 0#16, 0#16, 0#16, 0#16, 0#16, 0#16]
                        count := 0, avg := 0#16, avgValid := false }
            cmd := { valid := false, kind := 0#3, addr := 0#7, data := 0#8 }
            bus := s.bus } ∧
      outputs t = { modeO := 0#2, dispReq := false, hoursO := 0#5, minutesO := 0#6, secondsO := 0#6, avgTemp := 0#16
                    avgValid := false, sensorFault := false, sensorState := 0#4, cmdValid := false, cmdKind := 0#3
                    cmdAddr := 0#7, cmdData := 0#8 }

/-- R270, R38: the state after reset meets the invariants, and so does every state a RST leads to, if the parameters are in
range. The default parameters are R8's. -/
def Obligations.ResetMeetsTheInvariants : Prop :=
  State.reset.Inv ∧ IndexOk State.reset.session ∧
  ∀ s t : State, s.params.wf → exec .rst s = .next t → t.Inv ∧ IndexOk t.session

/-! ### Buttons, mode, digit -/

/-- R101, R141: Debounce, for every record, pin level and counter width, and its trigger: every fine tick, once per button. -/
def Obligations.DebounceFollowsItsRule : Prop :=
  (∀ (s : State) (pa pb : Bool), ∃ t, exec (.fineTick pa pb) s = .next t ∧
    t.dbA = (debounce s.params.heldW s.dbA pa).1 ∧ t.dbB = (debounce s.params.heldW s.dbB pb).1) ∧
  ∀ (heldW : Nat) (db : ButtonObservation),
    debounce heldW db false =
      (if db.released then ({ pressed := false, released := false, held := 0 }, some (min (db.held + 1) (2 ^ heldW - 1)))
       else ({ pressed := true, released := false, held := min (db.held + 1) (2 ^ heldW - 1) }, none)) ∧
    debounce heldW db true =
      (if db.pressed && (db.released || decide (1 ≤ db.held)) then
         ({ pressed := false, released := false, held := 0 }, some db.held)
       else if 1 ≤ db.held then ({ db with released := true }, none)
       else (db, none))

/-- R104, R105: the classification table, for every duration. -/
def Obligations.ClassifyFollowsTheTable : Prop :=
  ∀ d : Nat,
    classify .showTemperature d =
      (if 1 ≤ d ∧ d ≤ 90 then .showClock else if 100 ≤ d ∧ d ≤ 300 then .editHours else .showTemperature) ∧
    classify .editHours d = (if 1 ≤ d ∧ d ≤ 50 then .editMinutes else .editHours) ∧
    classify .editMinutes d = (if 1 ≤ d ∧ d ≤ 50 then .showTemperature else .editMinutes) ∧
    classify .showClock d = .showClock

/-- R100: FINE_TICK completes in every state, with both debouncers, the mode FSM (R106, R112) and the digit stage (R146) all
reading the pre-state; no other field changes and no command is issued. -/
def Obligations.FineTickCompletes : Prop :=
  ∀ (pa pb : Bool) (s : State),
    exec (.fineTick pa pb) s = .next
      { s with
        dbA := (debounce s.params.heldW s.dbA pa).1
        dbB := (debounce s.params.heldW s.dbB pb).1
        nav :=
          if s.nav.mode = .showClock then
            (if s.nav.idleCnt.val + 1 = 300 then { mode := .showTemperature, idleCnt := 0 }
             else { mode := .showClock, idleCnt := s.nav.idleCnt + 1 })
          else match (debounce s.params.heldW s.dbA pa).2 with
            | some d => { mode := classify s.nav.mode d, idleCnt := s.nav.idleCnt }
            | none => s.nav
        clock := digitIncrement s.nav.mode (debounce s.params.heldW s.dbB pb).2 s.clock
        cmd := { valid := false, kind := 0#3, addr := 0#7, data := 0#8 } }

/-- R101, R141: the four branch rows complete in every state. Each is the fine tick whose one pin level the row fixes; the
fixed pin's record takes the branch the row selects, and a tick with the pin active completes no cycle of a record that has no
`released` flag set. -/
def Obligations.FineBranchRowsComplete : Prop :=
  ∀ (p : Bool) (s : State),
    (∃ t, exec (.fineAActive p) s = .next t ∧ exec (.fineTick false p) s = .next t ∧
      t.dbA = (debounce s.params.heldW s.dbA false).1 ∧
      (s.dbA.released = false →
        t.dbA = { pressed := true, released := false, held := min (s.dbA.held + 1) (2 ^ s.params.heldW - 1) } ∧
        (s.nav.mode ≠ .showClock → t.nav = s.nav))) ∧
    (∃ t, exec (.fineAInactive p) s = .next t ∧ exec (.fineTick true p) s = .next t ∧
      t.dbA = (debounce s.params.heldW s.dbA true).1 ∧
      (s.dbA.pressed = true → 1 ≤ s.dbA.held →
        t.dbA = { pressed := false, released := false, held := 0 } ∧
        (s.nav.mode ≠ .showClock → t.nav.mode = classify s.nav.mode s.dbA.held))) ∧
    (∃ t, exec (.fineBActive p) s = .next t ∧ exec (.fineTick p false) s = .next t ∧
      t.dbB = (debounce s.params.heldW s.dbB false).1 ∧
      (s.dbB.released = false →
        t.dbB = { pressed := true, released := false, held := min (s.dbB.held + 1) (2 ^ s.params.heldW - 1) } ∧
        t.clock = s.clock)) ∧
    (∃ t, exec (.fineBInactive p) s = .next t ∧ exec (.fineTick p true) s = .next t ∧
      t.dbB = (debounce s.params.heldW s.dbB true).1 ∧
      (s.dbB.pressed = true → 1 ≤ s.dbB.held →
        t.dbB = { pressed := false, released := false, held := 0 } ∧
        t.clock = digitIncrement s.nav.mode (some s.dbB.held) s.clock))

/-- R111: the complete transition relation of `mode`, over a step with an input word without RST. -/
def Obligations.ModeTransitionRelation : Prop :=
  ∀ (s t : State) (w : InputWord) (rest : List PortWord),
    s.script = .input w :: rest → (portsOf w).rst = false → step s = .next t →
    ((portsOf w).fine = false → t.nav = s.nav) ∧
    ((portsOf w).fine = true →
      (s.nav.mode = .showClock →
        t.nav.mode = if s.nav.idleCnt.val + 1 = 300 then .showTemperature else .showClock) ∧
      (s.nav.mode ≠ .showClock →
        t.nav.mode = match (debounce s.params.heldW s.dbA (portsOf w).btnAN).2 with
          | none => s.nav.mode
          | some d =>
            match s.nav.mode with
            | .showTemperature =>
              if 1 ≤ d ∧ d ≤ 90 then .showClock else if 100 ≤ d ∧ d ≤ 300 then .editHours else .showTemperature
            | .editHours => if 1 ≤ d ∧ d ≤ 50 then .editMinutes else .editHours
            | .editMinutes => if 1 ≤ d ∧ d ≤ 50 then .showTemperature else .editMinutes
            | .showClock => .showClock))

/-- R113: a button-A cycle of 1..90 ticks that moves the mode to ShowClock at one fine tick leaves it there for exactly the
next 299 fine ticks and brings ShowTemperature back at the 300th, whatever the buttons, the clock and the sensor do, as long as
no RST comes. -/
def Obligations.ShowClockExpiresAfterExactly300FineTicks : Prop :=
  ∀ (s : State) (w : InputWord) (ws : List InputWord),
    s.Inv → s.nav.mode = .showTemperature →
    (portsOf w).rst = false → (portsOf w).fine = true → (portsOf w).btnAN = true → 1 ≤ s.dbA.held → s.dbA.held ≤ 90 →
    (∀ v ∈ ws, (portsOf v).rst = false) →
    ∃ t, runWords (w :: ws) s = .next t ∧
      (countFine ws < 300 → t.nav.mode = .showClock ∧ t.nav.idleCnt.val = countFine ws) ∧
      (countFine ws = 300 → t.nav.mode = .showTemperature ∧ t.nav.idleCnt.val = 0)

/-- R101, R102, R104 to R106: pressing button A for `n` fine ticks and releasing it classifies as a press of `n` ticks, for
every `n` (a saturated counter classifies as the true duration would), outside ShowClock. -/
def Obligations.PressAOfNTicksClassifiesAsN : Prop :=
  ∀ (s : State) (n : Nat),
    s.Inv → s.dbA = ButtonObservation.clear → s.nav.mode ≠ .showClock → 1 ≤ n →
    ∃ t, runWords ((pressA n).map lineWord) s = .next t ∧
      t.nav = { mode := classify s.nav.mode n, idleCnt := 0 } ∧ t.dbA = ButtonObservation.clear

/-- R141 to R148: pressing button B for `n` fine ticks and releasing it increments the field the edit mode names once if
`n` is in 1..50, and otherwise changes nothing of ClockTime; it never changes the mode. -/
def Obligations.PressBOfNTicksIncrementsOnce : Prop :=
  ∀ (s : State) (n : Nat),
    s.Inv → s.dbA = ButtonObservation.clear → s.dbB = ButtonObservation.clear → s.nav.mode ≠ .showClock → 1 ≤ n →
    ∃ t, runWords ((pressB n).map lineWord) s = .next t ∧ t.nav = s.nav ∧ t.dbB = ButtonObservation.clear ∧
      t.clock.ss = s.clock.ss ∧
      t.clock.hh.val =
        (if s.nav.mode = .editHours ∧ n ≤ 50 then (s.clock.hh.val + 1) % 24 else s.clock.hh.val) ∧
      t.clock.mm.val =
        (if s.nav.mode = .editMinutes ∧ n ≤ 50 then (s.clock.mm.val + 1) % 60 else s.clock.mm.val)

/-- R147, R148: button B's pin and record never reach the mode, the timeout or button A's record, and a fine tick never touches
the seconds, nor the hours in EditMinutes, nor the minutes in EditHours, nor any field outside the edit modes. -/
def Obligations.ButtonBNeverChangesTheMode : Prop :=
  ∀ (s : State) (pa pb pb' : Bool) (db : ButtonObservation),
    ∃ t t', exec (.fineTick pa pb) s = .next t ∧ exec (.fineTick pa pb') { s with dbB := db } = .next t' ∧
      t.nav = t'.nav ∧ t.dbA = t'.dbA ∧ t.clock.ss = s.clock.ss ∧
      (s.nav.mode ≠ .editHours → t.clock.hh = s.clock.hh) ∧
      (s.nav.mode ≠ .editMinutes → t.clock.mm = s.clock.mm)

/-- The source's invariant quoted in R38: "`heldTicks` never decrements except to 0 on cycle consumption", for both buttons and
every step. -/
def Obligations.HeldTicksNeverDecrementExceptToZero : Prop :=
  ∀ s t : State, s.Inv → step s = .next t →
    (t.dbA.held = 0 ∨ s.dbA.held ≤ t.dbA.held) ∧ (t.dbB.held = 0 ∨ s.dbB.held ≤ t.dbB.held)

/-! ### Wall clock -/

/-- R150, R153: SEC_TICK completes in every state and mode, advancing ClockTime by the carry chain and nothing else. -/
def Obligations.SecTickAdvancesTheClock : Prop :=
  ∀ s : State, ∃ t, exec .secTick s = .next t ∧
    t = { s with clock := t.clock, cmd := BusCommand.none } ∧
    t.clock.ss.val = (if s.clock.ss.val = 59 then 0 else s.clock.ss.val + 1) ∧
    t.clock.mm.val =
      (if s.clock.ss.val = 59 then (if s.clock.mm.val = 59 then 0 else s.clock.mm.val + 1) else s.clock.mm.val) ∧
    t.clock.hh.val =
      (if s.clock.ss.val = 59 ∧ s.clock.mm.val = 59 then (if s.clock.hh.val = 23 then 0 else s.clock.hh.val + 1)
       else s.clock.hh.val)

/-- R252 (c): ClockTime counts SEC ticks modulo 86400. -/
def Obligations.ClockCountsSecondsModuloADay : Prop :=
  ∀ t : ClockTime,
    (advance t).hh.val * 3600 + (advance t).mm.val * 60 + (advance t).ss.val =
      (t.hh.val * 3600 + t.mm.val * 60 + t.ss.val + 1) % 86400

/-- R142 to R146: the digit stage, for every mode, duration and time. -/
def Obligations.DigitIncrementFollowsItsRule : Prop :=
  ∀ (m : Mode) (t : ClockTime),
    digitIncrement m none t = t ∧
    ∀ d : Nat,
      digitIncrement m (some d) t =
        if 1 ≤ d ∧ d ≤ 50 then
          match m with
          | .editHours => { t with hh := if t.hh.val = 23 then 0 else t.hh + 1 }
          | .editMinutes => { t with mm := if t.mm.val = 59 then 0 else t.mm + 1 }
          | .showTemperature | .showClock => t
        else t

/-- R152: in a step without RST, ClockTime is written once, the advance first and the digit stage over its result. -/
def Obligations.ClockTimeComposesAdvanceThenDigit : Prop :=
  ∀ (s t : State) (w : InputWord) (rest : List PortWord),
    s.script = .input w :: rest → (portsOf w).rst = false → step s = .next t →
    t.clock =
      (if (portsOf w).fine = true then
        digitIncrement s.nav.mode (debounce s.params.heldW s.dbB (portsOf w).btnBN).2
          (if (portsOf w).sec = true then advance s.clock else s.clock)
       else if (portsOf w).sec = true then advance s.clock else s.clock)

/-! ### Sensor protocol engine -/

/-- R171, R172 (a), R174, R179: COARSE_TICK completes in every state. -/
def Obligations.CoarseTickCompletes : Prop :=
  ∀ s : State,
    (s.session.ps = .readCalibration → exec .coarseTick s = .next
      { s with
        session := { ps := .writeCalibration, byteIndex := 0, burstCnt := 0, scratch := s.session.scratch }
        cmd := { valid := true, kind := 0b000#3, addr := s.params.slaveAddr, data := s.params.regCalib } }) ∧
    (s.session.ps = .configFinished → exec .coarseTick s = .next
      { s with
        session := { ps := .adcStatusConfig, byteIndex := 0, burstCnt := 0, scratch := s.session.scratch }
        cmd := { valid := true, kind := 0b001#3, addr := s.params.slaveAddr, data := s.params.regCtrlMeas } }) ∧
    (s.session.ps.isIdle = false → exec .coarseTick s = .next { s with cmd := BusCommand.none })

/-- R175, R176, R177: BUS_OK in WriteCalibration, for every byte and every sub-state with a defined result. -/
def Obligations.BusOkReadsTheCalibration : Prop :=
  ∀ (s : State) (rdata : Byte) (drdy stop : Bool), s.session.ps = .writeCalibration →
    (s.session.burstCnt = 0 → exec (.busOk rdata drdy stop) s = .next
      { s with
        session := { ps := .writeCalibration, byteIndex := s.session.byteIndex, burstCnt := 1, scratch := s.session.scratch }
        cmd := { valid := true, kind := 0b101#3, addr := s.params.slaveAddr, data := 0#8 } }) ∧
    (∀ (i : Fin 6), s.session.byteIndex.val = i.val → i.val ≤ 4 → 1 ≤ s.session.burstCnt.val → s.session.burstCnt.val ≤ 5 →
      exec (.busOk rdata drdy stop) s = .next
        { s with
          session := { ps := .writeCalibration, byteIndex := s.session.byteIndex + 1, burstCnt := s.session.burstCnt + 1
                       scratch := s.session.scratch.set i.val rdata i.isLt }
          cmd := { valid := true, kind := if i.val = 4 then 0b111#3 else 0b110#3, addr := s.params.slaveAddr
                   data := 0#8 } }) ∧
    (s.session.byteIndex.val = 5 → 1 ≤ s.session.burstCnt.val →
      exec (.busOk rdata drdy stop) s = .next
        { s with
          session := { ps := .configFinished, byteIndex := 0, burstCnt := 0
                       scratch := s.session.scratch.set 5 rdata }
          cal := { t1 := s.session.scratch[1] ++ s.session.scratch[0], t2 := s.session.scratch[3] ++ s.session.scratch[2]
                   t3 := rdata ++ s.session.scratch[4], calValid := true }
          cmd := BusCommand.none })

/-- R180 to R184: BUS_OK in the acquisition's command states. -/
def Obligations.BusOkRunsTheAcquisitionCommands : Prop :=
  ∀ (s : State) (rdata : Byte) (drdy stop : Bool),
    (s.session.ps = .adcStatusConfig → exec (.busOk rdata drdy stop) s = .next
      { s with
        session := { s.session with ps := .adcStatus }
        cmd := { valid := true, kind := 0b011#3, addr := s.params.slaveAddr, data := s.params.ctrlMeasValue } }) ∧
    (s.session.ps = .adcStatus → exec (.busOk rdata drdy stop) s = .next
      { s with
        session := { s.session with ps := .adcWaitForMeasureFinish, burstCnt := 0 }
        cmd := { valid := true, kind := 0b000#3, addr := s.params.slaveAddr, data := s.params.regStatus } }) ∧
    (s.session.ps = .adcWaitForMeasureFinish → s.session.burstCnt = 0 → exec (.busOk rdata drdy stop) s = .next
      { s with
        session := { s.session with burstCnt := 1 }
        cmd := { valid := true, kind := 0b100#3, addr := s.params.slaveAddr, data := 0#8 } }) ∧
    (s.session.ps = .adcWaitForMeasureFinish → s.session.burstCnt = 1 → exec (.busOk rdata drdy stop) s = .next
      (if ready s.params rdata = true then
        { s with
          session := { s.session with ps := .adcStartReading, burstCnt := 0 }
          cmd := { valid := true, kind := 0b000#3, addr := s.params.slaveAddr, data := s.params.regTemp } }
       else
        { s with
          session := { s.session with burstCnt := 0 }
          cmd := { valid := true, kind := 0b000#3, addr := s.params.slaveAddr, data := s.params.regStatus } })) ∧
    (s.session.ps = .adcStartReading → exec (.busOk rdata drdy stop) s = .next
      { s with
        session := { s.session with ps := .adcReadingInProgress, byteIndex := 0, burstCnt := 1 }
        cmd := { valid := true, kind := 0b101#3, addr := s.params.slaveAddr, data := 0#8 } })

/-- R185: BUS_OK in AdcReadingInProgress; the second byte's step compensates the assembled code with the pre-state constants
and appends the sample. And R172 (b): in IDLE and in Error the event changes nothing but `cmd`. -/
def Obligations.BusOkReadsTheTemperature : Prop :=
  ∀ (s : State) (rdata : Byte) (drdy stop : Bool),
    (s.session.ps = .adcReadingInProgress → s.session.byteIndex = 0 → exec (.busOk rdata drdy stop) s = .next
      { s with
        session := { ps := .adcReadingInProgress, byteIndex := 1, burstCnt := 2, scratch := s.session.scratch.set 0 rdata }
        cmd := { valid := true, kind := 0b111#3, addr := s.params.slaveAddr, data := 0#8 } }) ∧
    (s.session.ps = .adcReadingInProgress → s.session.byteIndex = 1 → exec (.busOk rdata drdy stop) s = .next
      { s with
        session := { ps := .configFinished, byteIndex := 0, burstCnt := 0, scratch := s.session.scratch.set 1 rdata }
        window := windowAppend
          (BitVec.ofInt 16
            (compensate ((s.session.scratch[0] ++ rdata ++ 0#4 : RawCode).toNat : Int) (s.cal.t1.toNat : Int)
              s.cal.t2.toInt s.cal.t3.toInt s.params.trimCenti.toInt))
          s.window
        cmd := BusCommand.none }) ∧
    (s.session.ps.isWaiting = false → exec (.busOk rdata drdy stop) s = .next { s with cmd := BusCommand.none })

/-- R86 and the treatment `refuse` of spec/93 I4 (assumption 6): the register combinations no rule covers, and no run from reset
reaches, stop a bus event by name. -/
def Obligations.UnreachableSessionsStop : Prop :=
  ∀ (s : State) (rdata : Byte) (drdy stop : Bool),
    (s.session.ps = .writeCalibration → s.session.burstCnt.val = 6 → s.session.byteIndex.val ≤ 4 →
      exec (.busOk rdata drdy stop) s = .refused .unreachableSession) ∧
    (s.session.ps = .writeCalibration → 1 ≤ s.session.burstCnt.val → s.session.byteIndex.val = 6 →
      exec (.busOk rdata drdy stop) s = .fault .scratchIndexOutOfRange) ∧
    (s.session.ps = .adcWaitForMeasureFinish → 2 ≤ s.session.burstCnt.val →
      exec (.busOk rdata drdy stop) s = .refused .unreachableSession) ∧
    (s.session.ps = .adcReadingInProgress → s.session.byteIndex.val = 6 →
      exec (.busOk rdata drdy stop) s = .fault .scratchIndexOutOfRange)

/-- R241, R242, R172 (c): BUS_NACK completes in every state: it takes the exception (only `ps` changes, and no command is
issued), and in Error it is ignored. -/
def Obligations.BusNackEntersError : Prop :=
  ∀ s : State,
    exec .busNack s = .next { s with session := { s.session with ps := .error }, cmd := BusCommand.none }

/-- R246: SRST completes in every protocol state: it leaves Error (or any state) for ConfigFinished or ReadCalibration by
`calValid`, clears the two counters, and keeps every other field. -/
def Obligations.SrstRestartsTheEngine : Prop :=
  ∀ s : State,
    exec .srst s = .next
      { s with
        session := { ps := if s.cal.calValid = true then .configFinished else .readCalibration
                     byteIndex := 0, burstCnt := 0, scratch := s.session.scratch }
        cmd := BusCommand.none }

/-- R72: IDLE completes in every state and changes only `cmd`. -/
def Obligations.IdleClearsOnlyTheCommand : Prop :=
  ∀ s : State, exec .idle s = .next { s with cmd := { valid := false, kind := 0#3, addr := 0#7, data := 0#8 } }

/-- R171, R188: the order of the engine's tests over a whole step: SRST wins over everything; a NACK outside Error enters Error;
with neither, the engine stays put or moves along one arrow of R188. -/
def Obligations.EngineTransitionsFollowTheTable : Prop :=
  ∀ (s t : State) (w : InputWord) (rest : List PortWord),
    s.script = .input w :: rest → (portsOf w).rst = false → step s = .next t →
    ((portsOf w).srst = true →
      t.session.ps = if s.cal.calValid = true then .configFinished else .readCalibration) ∧
    ((portsOf w).srst = false → (portsOf w).busEvt = true → (portsOf w).busNack = true → t.session.ps = .error) ∧
    ((portsOf w).srst = false → ((portsOf w).busEvt = true → (portsOf w).busNack = false) →
      t.session.ps = s.session.ps ∨
      (s.session.ps, t.session.ps) ∈
        [ (ProtocolState.readCalibration, ProtocolState.writeCalibration),
          (.writeCalibration, .configFinished),
          (.configFinished, .adcStatusConfig),
          (.adcStatusConfig, .adcStatus),
          (.adcStatus, .adcWaitForMeasureFinish),
          (.adcWaitForMeasureFinish, .adcStartReading),
          (.adcStartReading, .adcReadingInProgress),
          (.adcReadingInProgress, .configFinished) ])

/-- R243: Error is absorbing over any run without SRST and RST: no command is issued, and the session, the calibration and the
window stay as the NACK left them; the button, mode and clock units end where the same run takes them from any other state of
the engine. -/
def Obligations.ErrorIsAbsorbing : Prop :=
  ∀ (s : State) (ws : List InputWord),
    s.session.ps = .error → (∀ w ∈ ws, (portsOf w).rst = false ∧ (portsOf w).srst = false) →
    ∃ t, runWords ws s = .next t ∧ t.session.ps = .error ∧ sensorFault t = true ∧
      t.session = s.session ∧ t.cal = s.cal ∧ t.window = s.window ∧
      (ws ≠ [] → t.cmd = BusCommand.none) ∧
      (∀ (ss : SensorSession) (t' : State), runWords ws { s with session := ss } = .next t' →
        t.nav = t'.nav ∧ t.dbA = t'.dbA ∧ t.dbB = t'.dbB ∧ t.clock = t'.clock)

/-- R28, R178: once `calValid` is 1, the constants never change and the calibration states are never entered, over any run
without RST. -/
def Obligations.CalibrationIsImmutableUntilReset : Prop :=
  ∀ (s : State) (ws : List InputWord),
    s.Inv → s.cal.calValid = true → (∀ w ∈ ws, (portsOf w).rst = false) →
    ∃ t, runWords ws s = .next t ∧ t.cal = s.cal ∧
      t.session.ps ≠ .readCalibration ∧ t.session.ps ≠ .writeCalibration

/-- R52, R80, R174 to R177, R189: a coarse tick and seven completed bus events read the six bytes and end in ConfigFinished with
the three constants; no other field of the block has changed, and the bus collaborator has been told the commands R188 lists,
of which the pointer write is the last byte and RECV_FINISH the last command (assumption 19). -/
def Obligations.CalibrationReadTakesOneCoarseAndSevenBusEvents : Prop :=
  ∀ (s : State) (b0 b1 b2 b3 b4 b5 : Byte), s.session.ps = .readCalibration →
    runWords ((calEvents b0 b1 b2 b3 b4 b5).map lineWord) s = .next
      { s with
        script := []
        session := { ps := .configFinished, byteIndex := 0, burstCnt := 0, scratch := #v[b0, b1, b2, b3, b4, b5] }
        cal := { t1 := b1 ++ b0, t2 := b3 ++ b2, t3 := b5 ++ b4, calValid := true }
        cmd := BusCommand.none
        bus := { addr := s.params.slaveAddr, isRead := true, byteOut := s.params.regCalib, started := some .recvFinish } }

/-- R179 to R186, R189: an acquisition with any number `k` of not-ready polls (one coarse tick and 7 + 2k completed bus events)
ends in ConfigFinished with exactly one sample appended, for every parameter value under which the status byte 0x00 is not ready
and 0x01 is; the bus collaborator's last byte is the temperature pointer and its last command RECV_FINISH (assumption 19). -/
def Obligations.AcquisitionWithKPollsAppendsOneSample : Prop :=
  ∀ (s : State) (r0 r1 : Byte) (k : Nat),
    s.session.ps = .configFinished → ready s.params 0x00#8 = false → ready s.params 0x01#8 = true →
    runWords ((acqEvents r0 r1 k).map lineWord) s = .next
      { s with
        script := []
        session := { ps := .configFinished, byteIndex := 0, burstCnt := 0
                     scratch := (s.session.scratch.set 0 r0).set 1 r1 }
        window := windowAppend (compensatedSample s.params s.cal (r0 ++ r1 ++ 0#4)) s.window
        cmd := BusCommand.none
        bus := { addr := s.params.slaveAddr, isRead := true, byteOut := s.params.regTemp, started := some .recvFinish } }

/-- R186: the ready test, for every parameter pair and status byte, and the pair's defaults. -/
def Obligations.ReadyTestFollowsItsParameters : Prop :=
  (Params.defaults.readyMask = 0x01#8 ∧ Params.defaults.readyWhenSet = true) ∧
  ∀ (p : Params) (b : Byte),
    (p.readyWhenSet = true → (ready p b = true ↔ b &&& p.readyMask ≠ 0#8)) ∧
    (p.readyWhenSet = false → (ready p b = true ↔ b &&& p.readyMask = 0#8))

/-! ### Bus commands -/

/-- R76, R260: a command row tells the bus collaborator R76's source operations of its kind with the word's own ADDR and DATA,
and the block has an IDLE cycle (R34: no other field is written). And a command the block shows reaches the collaborator in the
next step as the same row. The cycle of a command word by itself, and the collaborator's record, are the model's choices
(assumptions 2 and 19). -/
def Obligations.CommandRowsReachTheBusCollaborator : Prop :=
  (∀ (addr : BusAddr) (data : Byte) (s : State),
    exec (.sendSingle addr data) s = .next
      { s with cmd := BusCommand.none
               bus := { addr := addr, isRead := false, byteOut := data, started := some .sendSingle } } ∧
    exec (.sendStart addr data) s = .next
      { s with cmd := BusCommand.none
               bus := { addr := addr, isRead := false, byteOut := data, started := some .sendStart } } ∧
    exec (.sendFinish addr data) s = .next
      { s with cmd := BusCommand.none, bus := { s.bus with byteOut := data, started := some .sendFinish } } ∧
    exec (.recvSingle addr data) s = .next
      { s with cmd := BusCommand.none
               bus := { addr := addr, isRead := true, byteOut := s.bus.byteOut, started := some .recvSingle } } ∧
    exec (.recvStart addr data) s = .next
      { s with cmd := BusCommand.none
               bus := { addr := addr, isRead := true, byteOut := s.bus.byteOut, started := some .recvStart } } ∧
    exec (.recvCont addr data) s = .next
      { s with cmd := BusCommand.none, bus := { s.bus with started := some .recvCont } } ∧
    exec (.recvFinish addr data) s = .next
      { s with cmd := BusCommand.none, bus := { s.bus with started := some .recvFinish } }) ∧
  (∀ s : State, s.cmd.valid = false → captureCommand s = s) ∧
  (∀ (s : State) (k : CommandKind), s.cmd.valid = true → s.cmd.kind = k.bits → k ≠ .sendCont →
    exec (commandInstr k s.cmd.addr s.cmd.data) s = .next { captureCommand s with cmd := BusCommand.none })

/-- The reserved kind is refused by name in every state. R78 says that it is reserved and never issued; that it is refused is the
model's reading of the treatment `refuse` of spec/93 I5 (assumption 16), in the step that assumption 2 gives a command word. -/
def Obligations.SendContIsRefused : Prop :=
  ∀ (addr : BusAddr) (data : Byte) (s : State), exec (.sendCont addr data) s = .refused .reservedCommandKind

/-- R77, R78, R79: the command register holds NONE or a command of R79's list to SLAVE_ADDR after every step, whatever word the
ports carry; so SEND_CONT is never emitted and a receive command carries `DATA = 0`. -/
def Obligations.OnlyListedCommandsAreEmitted : Prop :=
  ∀ s t : State, CommandOk s.params s.cmd → step s = .next t →
    CommandOk t.params t.cmd ∧ t.cmd.kind ≠ CommandKind.sendCont.bits ∧
      (t.cmd.valid = false → t.cmd = BusCommand.none) ∧ (readFlag t.cmd.kind = true → t.cmd.data = 0#8)

/-- R13, R63, R77: a step issues a command only on a coarse tick in IDLE or on a bus completion in WAITING, and then the engine
waits for the answer; without either, it issues none. -/
def Obligations.CommandsAreIssuedOnlyByEngineEvents : Prop :=
  ∀ (s t : State) (w : InputWord) (rest : List PortWord),
    s.script = .input w :: rest → step s = .next t → t.cmd.valid = true →
    (portsOf w).rst = false ∧ (portsOf w).srst = false ∧ t.session.ps.isWaiting = true ∧
      (((portsOf w).busEvt = true ∧ (portsOf w).busNack = false ∧ s.session.ps.isWaiting = true) ∨
       ((portsOf w).coarse = true ∧ s.session.ps.isIdle = true))

/-- R63, R280: with a host that keeps its bus duties, the engine is in WAITING only while a command is outstanding, so it pairs
every completion with its command. That overlapping commands count as one is the model's choice (assumption 20). -/
def Obligations.WaitingMeansACommandIsOutstanding : Prop :=
  ∀ (s t : State) (w : InputWord) (rest : List PortWord) (before after : Bool),
    s.script = .input w :: rest → step s = .next t →
    (s.session.ps.isWaiting = true → before = true) →
    outstandingAfter before (portsOf w) t = some after →
    (t.session.ps.isWaiting = true → after = true)

/-! ### Assembly, compensation, window -/

/-- R80: CalAssemble's three constants as integers, for every six bytes. -/
def Obligations.CalAssembleReadsLittleEndianPairs : Prop :=
  ∀ b0 b1 b2 b3 b4 b5 : Byte,
    zext16 (calAssemble #v[b0, b1, b2, b3, b4, b5]).1 = (b1.toNat : Int) * 256 + b0.toNat ∧
    sext16 (calAssemble #v[b0, b1, b2, b3, b4, b5]).2.1 =
      (if b3.toNat < 128 then (b3.toNat : Int) * 256 + b2.toNat else (b3.toNat : Int) * 256 + b2.toNat - 65536) ∧
    sext16 (calAssemble #v[b0, b1, b2, b3, b4, b5]).2.2 =
      (if b5.toNat < 128 then (b5.toNat : Int) * 256 + b4.toNat else (b5.toNat : Int) * 256 + b4.toNat - 65536)

/-- R81: RawAssemble's code, for every two bytes. -/
def Obligations.RawAssemblePlacesTheBytes : Prop :=
  ∀ s : Vector Byte 6, (rawAssemble s).toNat = s[0].toNat * 4096 + s[1].toNat * 16

/-- R210, R213: the compensation as the formula of R210, and its result within the clamp for every operand. -/
def Obligations.CompensateFollowsTheFormulaAndTheClamp : Prop :=
  ∀ raw t1 t2 t3 trim : Int,
    (compensate raw t1 t2 t3 trim =
      (let var1 := ((raw / 8 - t1 * 2) * t2) / 2048
       let d := raw / 16 - t1
       let var2 := (((d * d) / 4096) * t3) / 16384
       let tc := ((var1 + var2) * 5 + 128) / 256
       max (-4000) (min 8500 (tc + trim)))) ∧
    -4000 ≤ compensate raw t1 t2 t3 trim ∧ compensate raw t1 t2 t3 trim ≤ 8500

/-- R211: the bounds of every intermediate, for every input the engine can assemble. -/
def Obligations.CompensationIntermediatesAreBounded : Prop :=
  ∀ (s : Vector Byte 6) (c : Calibration),
    let raw : Int := (rawAssemble s).toNat
    let t1 := zext16 c.t1
    let t2 := sext16 c.t2
    let t3 := sext16 c.t3
    (-131070 ≤ floorShift raw 3 - leftShift t1 1 ∧ floorShift raw 3 - leftShift t1 1 ≤ 131070) ∧
    |(floorShift raw 3 - leftShift t1 1) * t2| ≤ 4294901760 ∧
    (-65535 ≤ compD raw t1 ∧ compD raw t1 ≤ 65535) ∧
    compD raw t1 * compD raw t1 < 2 ^ 32 ∧
    floorShift (compD raw t1 * compD raw t1) 12 ≤ 1048544 ∧
    |floorShift (compD raw t1 * compD raw t1) 12 * t3| ≤ 34358689792 ∧
    |compVar1 raw t1 t2| ≤ 2097120 ∧
    |compVar2 raw t1 t3| ≤ 2097088 ∧
    |compTfine raw t1 t2 t3| ≤ 4194208 ∧
    (-81918 ≤ compTc raw t1 t2 t3 ∧ compTc raw t1 t2 t3 ≤ 81917)

/-- R212: before the trim and the clamp, the fixed-point temperature is within 0.6 of a hundredth of a degree of the source's
real-valued formula, for every input the engine can assemble. -/
def Obligations.CompensationIsAccurate : Prop :=
  ∀ (s : Vector Byte 6) (c : Calibration),
    let raw : Int := (rawAssemble s).toNat
    let treal : ℚ :=
      (((raw : ℚ) / 16384 - (zext16 c.t1 : ℚ) / 1024) * (sext16 c.t2 : ℚ)
        + ((raw : ℚ) / 131072 - (zext16 c.t1 : ℚ) / 8192) ^ 2 * (sext16 c.t3 : ℚ)) / (Config.compDivisor : ℚ)
    |(compTc raw (zext16 c.t1) (sext16 c.t2) (sext16 c.t3) : ℚ) - 100 * treal| < 6 / 10

/-- R10, R82, R221: the two temperatures the block computes fit the registers that hold them: the sample register reads back the
clamped temperature, and the average register the truncated mean, within the clamp. -/
def Obligations.TemperatureRegistersHoldTheirValues : Prop :=
  (∀ (p : Params) (c : Calibration) (raw : RawCode),
    sext16 (compensatedSample p c raw) =
      compensate raw.toNat (zext16 c.t1) (sext16 c.t2) (sext16 c.t3) (sext16 p.trimCenti)) ∧
  (∀ w : Vector Reg16 10, (∀ i : Fin 10, SampleOk w[i]) →
    sext16 (meanOf w) = (windowSum w).tdiv 10 ∧ SampleOk (meanOf w))

/-- R220, R221: WindowAppend and PublishAverage, for every window and sample: the slot, the cursor, and at the cursor 9 the
truncated mean of the ten slots, which is within the clamp if they are. -/
def Obligations.WindowAppendFollowsItsRule : Prop :=
  ∀ (t : Reg16) (w : SampleWindow),
    (w.count.val ≠ 9 →
      windowAppend t w = { w with win := w.win.set w.count.val t w.count.isLt, count := w.count + 1 }) ∧
    (w.count.val = 9 →
      (windowAppend t w).win = w.win.set 9 t ∧ (windowAppend t w).count = 0 ∧ (windowAppend t w).avgValid = true ∧
      (windowAppend t w).avg.toInt = (((w.win.set 9 t).toList.map BitVec.toInt).sum).tdiv 10 ∧
      ((∀ i : Fin 10, SampleOk w.win[i]) → SampleOk t → SampleOk (windowAppend t w).avg))

/-- R220, R221, R222: appended from an empty fill, fewer than ten samples leave the published average as it was and count up;
the tenth publishes the truncated mean of exactly those ten, and the cursor starts over. -/
def Obligations.TenSamplesPublishTheirMean : Prop :=
  ∀ (w : SampleWindow) (l : List Reg16), w.count = 0 →
    (l.length < 10 →
      (l.foldl (fun v t => windowAppend t v) w).count.val = l.length ∧
      (l.foldl (fun v t => windowAppend t v) w).avg = w.avg ∧
      (l.foldl (fun v t => windowAppend t v) w).avgValid = w.avgValid) ∧
    (l.length = 10 →
      (l.foldl (fun v t => windowAppend t v) w).win.toList = l ∧
      (l.foldl (fun v t => windowAppend t v) w).count = 0 ∧
      (l.foldl (fun v t => windowAppend t v) w).avg = BitVec.ofInt 16 ((l.map BitVec.toInt).sum.tdiv 10) ∧
      (l.foldl (fun v t => windowAppend t v) w).avgValid = true)

/-- R222, R224: a step changes the published average or its valid flag only by RST or by the second raw byte of the tenth
acquisition; without RST, the window itself changes only by the second raw byte of an acquisition. -/
def Obligations.AverageIsStaleBetweenFills : Prop :=
  ∀ (s t : State) (w : InputWord) (rest : List PortWord),
    s.script = .input w :: rest → (portsOf w).rst = false → step s = .next t → t.window ≠ s.window →
    s.session.ps = .adcReadingInProgress ∧ s.session.byteIndex ≠ 0 ∧
      (portsOf w).srst = false ∧ (portsOf w).busEvt = true ∧ (portsOf w).busNack = false ∧
      (s.window.count.val ≠ 9 → t.window.avg = s.window.avg ∧ t.window.avgValid = s.window.avgValid ∧
        t.window.count.val = s.window.count.val + 1) ∧
      (s.window.count.val = 9 → t.window.avgValid = true ∧ t.window.count = 0)

/-! ### Invariants and the whole machine -/

/-- R38: every step from every state that meets the invariants leads to one that does, whatever word it runs. They are R38's but
for (f) in Error, which R242 contradicts (assumption 5). R38 (f) itself is kept by every step but one: a NACK in the middle of a
burst, which leaves the session as it was but for `ps` (R241, R242). What `byteIndex` then holds in Error decides nothing: no
output depends on it, and the step that leaves Error gives the same state whatever it was (R37, R243, R246). -/
def Obligations.EveryStepKeepsTheInvariants : Prop :=
  (∀ s t : State, s.Inv → step s = .next t → t.Inv) ∧
  (∀ s t : State, s.Inv → IndexOk s.session → step s = .next t →
    IndexOk t.session ∨
    (t.session = { s.session with ps := .error } ∧ s.session.byteIndex ≠ 0 ∧
      (s.session.ps = .writeCalibration ∨ s.session.ps = .adcReadingInProgress))) ∧
  (∀ (s t : State) (i : Fin 7), s.session.ps = .error → step s = .next t →
    ∃ t', step { s with session := { s.session with byteIndex := i } } = .next t' ∧ outputs t' = outputs t ∧
      (t.session.ps = .error → t' = { t with session := { t.session with byteIndex := i } }) ∧
      (t.session.ps ≠ .error → t' = t))

/-- R244, R245: "all decisions are total functions over current state and input": from a state that meets the invariants no step
stops, unless the ports carry the reserved command word. -/
def Obligations.InvariantStatesNeverStop : Prop :=
  ∀ s : State, s.Inv → NextWordAllowed s → ∃ t, step s = .next t

/-- R38: over any run of input words from a state that meets the invariants, no step stops and the invariants hold at the end.
They are R38's but for (f) in Error, which R242 contradicts (assumption 5). -/
def Obligations.EveryRunOfInputsKeepsTheInvariants : Prop :=
  ∀ (s : State) (ws : List InputWord), s.Inv → ∃ t, runWords ws s = .next t ∧ t.Inv

/-- R61: the button, mode and clock cluster and the sensor cluster do not interfere: what a step does to one cluster is the same
for two states and two input words that agree on that cluster and on its inputs, whatever the other cluster holds and sees. -/
def Obligations.TheTwoClustersAreIndependent : Prop :=
  ∀ (s s' t t' : State) (w w' : InputWord) (rest rest' : List PortWord),
    s.script = .input w :: rest → s'.script = .input w' :: rest' → s.params = s'.params →
    (portsOf w).rst = (portsOf w').rst → step s = .next t → step s' = .next t' →
    ((s.nav = s'.nav → s.dbA = s'.dbA → s.dbB = s'.dbB → s.clock = s'.clock →
      (portsOf w).sec = (portsOf w').sec → (portsOf w).fine = (portsOf w').fine →
      (portsOf w).btnAN = (portsOf w').btnAN → (portsOf w).btnBN = (portsOf w').btnBN →
      t.nav = t'.nav ∧ t.dbA = t'.dbA ∧ t.dbB = t'.dbB ∧ t.clock = t'.clock) ∧
     (s.session = s'.session → s.cal = s'.cal → s.window = s'.window →
      (portsOf w).srst = (portsOf w').srst → (portsOf w).busEvt = (portsOf w').busEvt →
      (portsOf w).busNack = (portsOf w').busNack → (portsOf w).busRdata = (portsOf w').busRdata →
      (portsOf w).coarse = (portsOf w').coarse →
      t.session = t'.session ∧ t.cal = t'.cal ∧ t.window = t'.window ∧ t.cmd = t'.cmd))

/-- R36, with the encodings of R23 and R30: every output port as a function of the state. -/
def Obligations.OutputsAreFunctionsOfTheState : Prop :=
  ∀ s : State,
    (outputs s).modeO =
      (match s.nav.mode with
        | .showTemperature => 0b00#2
        | .showClock => 0b01#2
        | .editHours => 0b10#2
        | .editMinutes => 0b11#2) ∧
    ((outputs s).dispReq = false ↔ s.nav.mode = .showTemperature) ∧
    (outputs s).hoursO.toNat = s.clock.hh.val ∧ (outputs s).minutesO.toNat = s.clock.mm.val ∧
    (outputs s).secondsO.toNat = s.clock.ss.val ∧
    (outputs s).avgTemp = s.window.avg ∧ (outputs s).avgValid = s.window.avgValid ∧
    ((outputs s).sensorFault = true ↔ s.session.ps = .error) ∧
    (outputs s).sensorState =
      (match s.session.ps with
        | .readCalibration => 0#4
        | .writeCalibration => 1#4
        | .configFinished => 2#4
        | .adcStatusConfig => 3#4
        | .adcStatus => 4#4
        | .adcWaitForMeasureFinish => 5#4
        | .adcStartReading => 6#4
        | .adcReadingInProgress => 7#4
        | .error => 8#4) ∧
    (outputs s).cmdValid = s.cmd.valid ∧ (outputs s).cmdKind = s.cmd.kind ∧ (outputs s).cmdAddr = s.cmd.addr ∧
    (outputs s).cmdData = s.cmd.data
end

