-- ==== Sys2Proof/Laws/Decode.lean ====
section
/-!
SUPPORT. What a row's mask test says of the ports, and the rows a word matches as conditions on its ports.
-/
namespace Sys2Proof

/-- A mask test, bit by bit. -/
theorem mask_test_iff (w m v : InputWord) :
    (w &&& m == v) = decide (∀ i : Fin 19, (w.getLsbD i && m.getLsbD i) = v.getLsbD i) := by
  rw [Bool.eq_iff_iff]
  simp only [beq_iff_eq, decide_eq_true_eq]
  constructor
  · intro h i
    rw [← h]
    simp
  · intro h
    apply BitVec.eq_of_getLsbD_eq
    intro i hi
    simpa using h ⟨i, hi⟩

theorem mask_rst (w : InputWord) : (w &&& 0x020#19 == 0x020#19) = (portsOf w).rst := by
  rw [mask_test_iff, Bool.eq_iff_iff]; simp [Fin.forall_fin_succ, portsOf]

theorem mask_srst (w : InputWord) :
    (w &&& 0x030#19 == 0x010#19) = (!(portsOf w).rst && (portsOf w).srst) := by
  rw [mask_test_iff, Bool.eq_iff_iff]; simp [Fin.forall_fin_succ, portsOf]; tauto

theorem mask_sec (w : InputWord) : (w &&& 0x021#19 == 0x001#19) = (!(portsOf w).rst && (portsOf w).sec) := by
  rw [mask_test_iff, Bool.eq_iff_iff]; simp [Fin.forall_fin_succ, portsOf]; tauto

theorem mask_fine (w : InputWord) : (w &&& 0x022#19 == 0x002#19) = (!(portsOf w).rst && (portsOf w).fine) := by
  rw [mask_test_iff, Bool.eq_iff_iff]; simp [Fin.forall_fin_succ, portsOf]; tauto

theorem mask_fineAActive (w : InputWord) :
    (w &&& 0x222#19 == 0x002#19) = (!(portsOf w).rst && (portsOf w).fine && !(portsOf w).btnAN) := by
  rw [mask_test_iff, Bool.eq_iff_iff]
  simp [Fin.forall_fin_succ, portsOf]
  tauto

theorem mask_fineAInactive (w : InputWord) :
    (w &&& 0x222#19 == 0x202#19) = (!(portsOf w).rst && (portsOf w).fine && (portsOf w).btnAN) := by
  rw [mask_test_iff, Bool.eq_iff_iff]
  simp [Fin.forall_fin_succ, portsOf]
  tauto

theorem mask_fineBActive (w : InputWord) :
    (w &&& 0x422#19 == 0x002#19) = (!(portsOf w).rst && (portsOf w).fine && !(portsOf w).btnBN) := by
  rw [mask_test_iff, Bool.eq_iff_iff]
  simp [Fin.forall_fin_succ, portsOf]
  tauto

theorem mask_fineBInactive (w : InputWord) :
    (w &&& 0x422#19 == 0x402#19) = (!(portsOf w).rst && (portsOf w).fine && (portsOf w).btnBN) := by
  rw [mask_test_iff, Bool.eq_iff_iff]
  simp [Fin.forall_fin_succ, portsOf]
  tauto

theorem mask_busNack (w : InputWord) :
    (w &&& 0x078#19 == 0x048#19) =
      (!(portsOf w).rst && !(portsOf w).srst && (portsOf w).busEvt && (portsOf w).busNack) := by
  rw [mask_test_iff, Bool.eq_iff_iff]
  simp [Fin.forall_fin_succ, portsOf]
  tauto

theorem mask_busOk (w : InputWord) :
    (w &&& 0x078#19 == 0x008#19) =
      (!(portsOf w).rst && !(portsOf w).srst && (portsOf w).busEvt && !(portsOf w).busNack) := by
  rw [mask_test_iff, Bool.eq_iff_iff]
  simp [Fin.forall_fin_succ, portsOf]
  tauto

theorem mask_coarse (w : InputWord) :
    (w &&& 0x034#19 == 0x004#19) = (!(portsOf w).rst && !(portsOf w).srst && (portsOf w).coarse) := by
  rw [mask_test_iff, Bool.eq_iff_iff]
  simp [Fin.forall_fin_succ, portsOf]
  tauto

theorem mask_idle (w : InputWord) :
    (w &&& 0x03F#19 == 0x000#19) =
      (!(portsOf w).rst && !(portsOf w).srst && !(portsOf w).sec && !(portsOf w).fine && !(portsOf w).coarse
        && !(portsOf w).busEvt) := by
  rw [mask_test_iff, Bool.eq_iff_iff]
  simp [Fin.forall_fin_succ, portsOf]
  tauto

/-- The rows an input word matches, as conditions on its ports, in the table's order (R73). -/
theorem matchingRows_eq (w : InputWord) :
    matchingRows w =
      let p := portsOf w
      (if p.rst then [Instr.rst] else [])
        ++ (if !p.rst && p.srst then [Instr.srst] else [])
        ++ (if !p.rst && p.sec then [Instr.secTick] else [])
        ++ (if !p.rst && p.fine then [Instr.fineTick p.btnAN p.btnBN] else [])
        ++ (if !p.rst && p.fine && !p.btnAN then [Instr.fineAActive p.btnBN] else [])
        ++ (if !p.rst && p.fine && p.btnAN then [Instr.fineAInactive p.btnBN] else [])
        ++ (if !p.rst && p.fine && !p.btnBN then [Instr.fineBActive p.btnAN] else [])
        ++ (if !p.rst && p.fine && p.btnBN then [Instr.fineBInactive p.btnAN] else [])
        ++ (if !p.rst && !p.srst && p.busEvt && p.busNack then [Instr.busNack] else [])
        ++ (if !p.rst && !p.srst && p.busEvt && !p.busNack then
              [Instr.busOk p.busRdata p.busDataReady p.busStop] else [])
        ++ (if !p.rst && !p.srst && p.coarse then [Instr.coarseTick] else [])
        ++ (if !p.rst && !p.srst && !p.sec && !p.fine && !p.coarse && !p.busEvt then [Instr.idle] else []) := by
  have cons_if : ∀ (c : Bool) (r : InputRow) (l : List InputRow),
      (if c = true then r :: l else l).map (fun x => x.read (portsOf w)) =
        (if c = true then [r.read (portsOf w)] else []) ++ l.map (fun x => x.read (portsOf w)) := by
    intro c r l
    cases c <;> rfl
  simp only [matchingRows, inputRows, List.filter_cons, List.filter_nil, InputRow.matchesWord, mask_rst, mask_srst,
    mask_sec, mask_fine, mask_fineAActive, mask_fineAInactive, mask_fineBActive, mask_fineBInactive, mask_busNack,
    mask_busOk, mask_coarse, mask_idle, cons_if, List.map_nil, List.append_nil, List.append_assoc]

end Sys2Proof
end

