-- ==== Sys2Proof/Laws/State.lean ====
section
/-!
SUPPORT. One lemma per field per state update, so that no proof unfolds a record update.
-/
namespace Sys2Proof.Machine

/-! ### noCommand -/

@[simp] theorem noCommand_params (s : State) : (noCommand s).params = s.params := rfl
@[simp] theorem noCommand_script (s : State) : (noCommand s).script = s.script := rfl
@[simp] theorem noCommand_nav (s : State) : (noCommand s).nav = s.nav := rfl
@[simp] theorem noCommand_dbA (s : State) : (noCommand s).dbA = s.dbA := rfl
@[simp] theorem noCommand_dbB (s : State) : (noCommand s).dbB = s.dbB := rfl
@[simp] theorem noCommand_clock (s : State) : (noCommand s).clock = s.clock := rfl
@[simp] theorem noCommand_session (s : State) : (noCommand s).session = s.session := rfl
@[simp] theorem noCommand_cal (s : State) : (noCommand s).cal = s.cal := rfl
@[simp] theorem noCommand_window (s : State) : (noCommand s).window = s.window := rfl
@[simp] theorem noCommand_cmd (s : State) : (noCommand s).cmd = BusCommand.none := rfl
@[simp] theorem noCommand_bus (s : State) : (noCommand s).bus = s.bus := rfl

/-! ### putCommand -/

@[simp] theorem putCommand_params (k : CommandKind) (a : BusAddr) (d : Byte) (s : State) :
    (putCommand k a d s).params = s.params := rfl
@[simp] theorem putCommand_script (k : CommandKind) (a : BusAddr) (d : Byte) (s : State) :
    (putCommand k a d s).script = s.script := rfl
@[simp] theorem putCommand_nav (k : CommandKind) (a : BusAddr) (d : Byte) (s : State) :
    (putCommand k a d s).nav = s.nav := rfl
@[simp] theorem putCommand_dbA (k : CommandKind) (a : BusAddr) (d : Byte) (s : State) :
    (putCommand k a d s).dbA = s.dbA := rfl
@[simp] theorem putCommand_dbB (k : CommandKind) (a : BusAddr) (d : Byte) (s : State) :
    (putCommand k a d s).dbB = s.dbB := rfl
@[simp] theorem putCommand_clock (k : CommandKind) (a : BusAddr) (d : Byte) (s : State) :
    (putCommand k a d s).clock = s.clock := rfl
@[simp] theorem putCommand_session (k : CommandKind) (a : BusAddr) (d : Byte) (s : State) :
    (putCommand k a d s).session = s.session := rfl
@[simp] theorem putCommand_cal (k : CommandKind) (a : BusAddr) (d : Byte) (s : State) :
    (putCommand k a d s).cal = s.cal := rfl
@[simp] theorem putCommand_window (k : CommandKind) (a : BusAddr) (d : Byte) (s : State) :
    (putCommand k a d s).window = s.window := rfl
@[simp] theorem putCommand_cmd (k : CommandKind) (a : BusAddr) (d : Byte) (s : State) :
    (putCommand k a d s).cmd = { valid := true, kind := k.bits, addr := a, data := d } := rfl
@[simp] theorem putCommand_bus (k : CommandKind) (a : BusAddr) (d : Byte) (s : State) :
    (putCommand k a d s).bus = s.bus := rfl

/-! ### issue -/

@[simp] theorem issue_params (k : CommandKind) (d : Byte) (s : State) : (issue k d s).params = s.params := rfl
@[simp] theorem issue_script (k : CommandKind) (d : Byte) (s : State) : (issue k d s).script = s.script := rfl
@[simp] theorem issue_nav (k : CommandKind) (d : Byte) (s : State) : (issue k d s).nav = s.nav := rfl
@[simp] theorem issue_dbA (k : CommandKind) (d : Byte) (s : State) : (issue k d s).dbA = s.dbA := rfl
@[simp] theorem issue_dbB (k : CommandKind) (d : Byte) (s : State) : (issue k d s).dbB = s.dbB := rfl
@[simp] theorem issue_clock (k : CommandKind) (d : Byte) (s : State) : (issue k d s).clock = s.clock := rfl
@[simp] theorem issue_session (k : CommandKind) (d : Byte) (s : State) : (issue k d s).session = s.session := rfl
@[simp] theorem issue_cal (k : CommandKind) (d : Byte) (s : State) : (issue k d s).cal = s.cal := rfl
@[simp] theorem issue_window (k : CommandKind) (d : Byte) (s : State) : (issue k d s).window = s.window := rfl
@[simp] theorem issue_cmd (k : CommandKind) (d : Byte) (s : State) :
    (issue k d s).cmd = { valid := true, kind := k.bits, addr := s.params.slaveAddr, data := d } := rfl
@[simp] theorem issue_bus (k : CommandKind) (d : Byte) (s : State) : (issue k d s).bus = s.bus := rfl

/-! ### setSession -/

@[simp] theorem setSession_params (q : ProtocolState) (i b : Fin 7) (s : State) :
    (setSession q i b s).params = s.params := rfl
@[simp] theorem setSession_script (q : ProtocolState) (i b : Fin 7) (s : State) :
    (setSession q i b s).script = s.script := rfl
@[simp] theorem setSession_nav (q : ProtocolState) (i b : Fin 7) (s : State) : (setSession q i b s).nav = s.nav := rfl
@[simp] theorem setSession_dbA (q : ProtocolState) (i b : Fin 7) (s : State) : (setSession q i b s).dbA = s.dbA := rfl
@[simp] theorem setSession_dbB (q : ProtocolState) (i b : Fin 7) (s : State) : (setSession q i b s).dbB = s.dbB := rfl
@[simp] theorem setSession_clock (q : ProtocolState) (i b : Fin 7) (s : State) :
    (setSession q i b s).clock = s.clock := rfl
@[simp] theorem setSession_session (q : ProtocolState) (i b : Fin 7) (s : State) :
    (setSession q i b s).session = { ps := q, byteIndex := i, burstCnt := b, scratch := s.session.scratch } := rfl
@[simp] theorem setSession_cal (q : ProtocolState) (i b : Fin 7) (s : State) : (setSession q i b s).cal = s.cal := rfl
@[simp] theorem setSession_window (q : ProtocolState) (i b : Fin 7) (s : State) :
    (setSession q i b s).window = s.window := rfl
@[simp] theorem setSession_cmd (q : ProtocolState) (i b : Fin 7) (s : State) : (setSession q i b s).cmd = s.cmd := rfl
@[simp] theorem setSession_bus (q : ProtocolState) (i b : Fin 7) (s : State) : (setSession q i b s).bus = s.bus := rfl

/-! ### setCalibration -/

@[simp] theorem setCalibration_params (c : Reg16 × Reg16 × Reg16) (s : State) :
    (setCalibration c s).params = s.params := rfl
@[simp] theorem setCalibration_script (c : Reg16 × Reg16 × Reg16) (s : State) :
    (setCalibration c s).script = s.script := rfl
@[simp] theorem setCalibration_nav (c : Reg16 × Reg16 × Reg16) (s : State) : (setCalibration c s).nav = s.nav := rfl
@[simp] theorem setCalibration_dbA (c : Reg16 × Reg16 × Reg16) (s : State) : (setCalibration c s).dbA = s.dbA := rfl
@[simp] theorem setCalibration_dbB (c : Reg16 × Reg16 × Reg16) (s : State) : (setCalibration c s).dbB = s.dbB := rfl
@[simp] theorem setCalibration_clock (c : Reg16 × Reg16 × Reg16) (s : State) :
    (setCalibration c s).clock = s.clock := rfl
@[simp] theorem setCalibration_session (c : Reg16 × Reg16 × Reg16) (s : State) :
    (setCalibration c s).session = s.session := rfl
@[simp] theorem setCalibration_cal (c : Reg16 × Reg16 × Reg16) (s : State) :
    (setCalibration c s).cal = { t1 := c.1, t2 := c.2.1, t3 := c.2.2, calValid := true } := rfl
@[simp] theorem setCalibration_window (c : Reg16 × Reg16 × Reg16) (s : State) :
    (setCalibration c s).window = s.window := rfl
@[simp] theorem setCalibration_cmd (c : Reg16 × Reg16 × Reg16) (s : State) : (setCalibration c s).cmd = s.cmd := rfl
@[simp] theorem setCalibration_bus (c : Reg16 × Reg16 × Reg16) (s : State) : (setCalibration c s).bus = s.bus := rfl

/-! ### setWindow -/

@[simp] theorem setWindow_params (w : SampleWindow) (s : State) : (setWindow w s).params = s.params := rfl
@[simp] theorem setWindow_script (w : SampleWindow) (s : State) : (setWindow w s).script = s.script := rfl
@[simp] theorem setWindow_nav (w : SampleWindow) (s : State) : (setWindow w s).nav = s.nav := rfl
@[simp] theorem setWindow_dbA (w : SampleWindow) (s : State) : (setWindow w s).dbA = s.dbA := rfl
@[simp] theorem setWindow_dbB (w : SampleWindow) (s : State) : (setWindow w s).dbB = s.dbB := rfl
@[simp] theorem setWindow_clock (w : SampleWindow) (s : State) : (setWindow w s).clock = s.clock := rfl
@[simp] theorem setWindow_session (w : SampleWindow) (s : State) : (setWindow w s).session = s.session := rfl
@[simp] theorem setWindow_cal (w : SampleWindow) (s : State) : (setWindow w s).cal = s.cal := rfl
@[simp] theorem setWindow_window (w : SampleWindow) (s : State) : (setWindow w s).window = w := rfl
@[simp] theorem setWindow_cmd (w : SampleWindow) (s : State) : (setWindow w s).cmd = s.cmd := rfl
@[simp] theorem setWindow_bus (w : SampleWindow) (s : State) : (setWindow w s).bus = s.bus := rfl

/-! ### raiseBusNack -/

@[simp] theorem raiseBusNack_params (s : State) : (raiseBusNack s).params = s.params := rfl
@[simp] theorem raiseBusNack_script (s : State) : (raiseBusNack s).script = s.script := rfl
@[simp] theorem raiseBusNack_nav (s : State) : (raiseBusNack s).nav = s.nav := rfl
@[simp] theorem raiseBusNack_dbA (s : State) : (raiseBusNack s).dbA = s.dbA := rfl
@[simp] theorem raiseBusNack_dbB (s : State) : (raiseBusNack s).dbB = s.dbB := rfl
@[simp] theorem raiseBusNack_clock (s : State) : (raiseBusNack s).clock = s.clock := rfl
@[simp] theorem raiseBusNack_session (s : State) : (raiseBusNack s).session = { s.session with ps := .error } := rfl
@[simp] theorem raiseBusNack_cal (s : State) : (raiseBusNack s).cal = s.cal := rfl
@[simp] theorem raiseBusNack_window (s : State) : (raiseBusNack s).window = s.window := rfl
@[simp] theorem raiseBusNack_cmd (s : State) : (raiseBusNack s).cmd = BusCommand.none := rfl
@[simp] theorem raiseBusNack_bus (s : State) : (raiseBusNack s).bus = s.bus := rfl

/-! ### engineReset -/

@[simp] theorem engineReset_params (s : State) : (engineReset s).params = s.params := rfl
@[simp] theorem engineReset_script (s : State) : (engineReset s).script = s.script := rfl
@[simp] theorem engineReset_nav (s : State) : (engineReset s).nav = s.nav := rfl
@[simp] theorem engineReset_dbA (s : State) : (engineReset s).dbA = s.dbA := rfl
@[simp] theorem engineReset_dbB (s : State) : (engineReset s).dbB = s.dbB := rfl
@[simp] theorem engineReset_clock (s : State) : (engineReset s).clock = s.clock := rfl
@[simp] theorem engineReset_session (s : State) :
    (engineReset s).session =
      { ps := if s.cal.calValid then .configFinished else .readCalibration
        byteIndex := 0
        burstCnt := 0
        scratch := s.session.scratch } := rfl
@[simp] theorem engineReset_cal (s : State) : (engineReset s).cal = s.cal := rfl
@[simp] theorem engineReset_window (s : State) : (engineReset s).window = s.window := rfl
@[simp] theorem engineReset_cmd (s : State) : (engineReset s).cmd = BusCommand.none := rfl
@[simp] theorem engineReset_bus (s : State) : (engineReset s).bus = s.bus := rfl

/-! ### resetBlock -/

@[simp] theorem resetBlock_params (s : State) : (resetBlock s).params = s.params := rfl
@[simp] theorem resetBlock_script (s : State) : (resetBlock s).script = s.script := rfl
@[simp] theorem resetBlock_nav (s : State) : (resetBlock s).nav = State.reset.nav := rfl
@[simp] theorem resetBlock_dbA (s : State) : (resetBlock s).dbA = State.reset.dbA := rfl
@[simp] theorem resetBlock_dbB (s : State) : (resetBlock s).dbB = State.reset.dbB := rfl
@[simp] theorem resetBlock_clock (s : State) : (resetBlock s).clock = State.reset.clock := rfl
@[simp] theorem resetBlock_session (s : State) : (resetBlock s).session = State.reset.session := rfl
@[simp] theorem resetBlock_cal (s : State) : (resetBlock s).cal = State.reset.cal := rfl
@[simp] theorem resetBlock_window (s : State) : (resetBlock s).window = State.reset.window := rfl
@[simp] theorem resetBlock_cmd (s : State) : (resetBlock s).cmd = State.reset.cmd := rfl
@[simp] theorem resetBlock_bus (s : State) : (resetBlock s).bus = s.bus := rfl

/-! ### pushWord -/

@[simp] theorem pushWord_params (w : PortWord) (s : State) : (pushWord w s).params = s.params := rfl
@[simp] theorem pushWord_script (w : PortWord) (s : State) : (pushWord w s).script = w :: s.script := rfl
@[simp] theorem pushWord_nav (w : PortWord) (s : State) : (pushWord w s).nav = s.nav := rfl
@[simp] theorem pushWord_dbA (w : PortWord) (s : State) : (pushWord w s).dbA = s.dbA := rfl
@[simp] theorem pushWord_dbB (w : PortWord) (s : State) : (pushWord w s).dbB = s.dbB := rfl
@[simp] theorem pushWord_clock (w : PortWord) (s : State) : (pushWord w s).clock = s.clock := rfl
@[simp] theorem pushWord_session (w : PortWord) (s : State) : (pushWord w s).session = s.session := rfl
@[simp] theorem pushWord_cal (w : PortWord) (s : State) : (pushWord w s).cal = s.cal := rfl
@[simp] theorem pushWord_window (w : PortWord) (s : State) : (pushWord w s).window = s.window := rfl
@[simp] theorem pushWord_cmd (w : PortWord) (s : State) : (pushWord w s).cmd = s.cmd := rfl
@[simp] theorem pushWord_bus (w : PortWord) (s : State) : (pushWord w s).bus = s.bus := rfl

/-! ### fineTick -/

@[simp] theorem fineTick_params (pa pb : Bool) (s : State) : (fineTick pa pb s).params = s.params := rfl
@[simp] theorem fineTick_script (pa pb : Bool) (s : State) : (fineTick pa pb s).script = s.script := rfl
@[simp] theorem fineTick_nav (pa pb : Bool) (s : State) :
    (fineTick pa pb s).nav = navigate s.nav (debounce s.params.heldW s.dbA pa).2 := rfl
@[simp] theorem fineTick_dbA (pa pb : Bool) (s : State) :
    (fineTick pa pb s).dbA = (debounce s.params.heldW s.dbA pa).1 := rfl
@[simp] theorem fineTick_dbB (pa pb : Bool) (s : State) :
    (fineTick pa pb s).dbB = (debounce s.params.heldW s.dbB pb).1 := rfl
@[simp] theorem fineTick_clock (pa pb : Bool) (s : State) :
    (fineTick pa pb s).clock = digitIncrement s.nav.mode (debounce s.params.heldW s.dbB pb).2 s.clock := rfl
@[simp] theorem fineTick_session (pa pb : Bool) (s : State) : (fineTick pa pb s).session = s.session := rfl
@[simp] theorem fineTick_cal (pa pb : Bool) (s : State) : (fineTick pa pb s).cal = s.cal := rfl
@[simp] theorem fineTick_window (pa pb : Bool) (s : State) : (fineTick pa pb s).window = s.window := rfl
@[simp] theorem fineTick_cmd (pa pb : Bool) (s : State) : (fineTick pa pb s).cmd = BusCommand.none := rfl
@[simp] theorem fineTick_bus (pa pb : Bool) (s : State) : (fineTick pa pb s).bus = s.bus := rfl

/-! ### receiveCommand -/

@[simp] theorem receiveCommand_params (k : CommandKind) (a : BusAddr) (d : Byte) (s : State) :
    (receiveCommand k a d s).params = s.params := rfl
@[simp] theorem receiveCommand_script (k : CommandKind) (a : BusAddr) (d : Byte) (s : State) :
    (receiveCommand k a d s).script = s.script := rfl
@[simp] theorem receiveCommand_nav (k : CommandKind) (a : BusAddr) (d : Byte) (s : State) :
    (receiveCommand k a d s).nav = s.nav := rfl
@[simp] theorem receiveCommand_dbA (k : CommandKind) (a : BusAddr) (d : Byte) (s : State) :
    (receiveCommand k a d s).dbA = s.dbA := rfl
@[simp] theorem receiveCommand_dbB (k : CommandKind) (a : BusAddr) (d : Byte) (s : State) :
    (receiveCommand k a d s).dbB = s.dbB := rfl
@[simp] theorem receiveCommand_clock (k : CommandKind) (a : BusAddr) (d : Byte) (s : State) :
    (receiveCommand k a d s).clock = s.clock := rfl
@[simp] theorem receiveCommand_session (k : CommandKind) (a : BusAddr) (d : Byte) (s : State) :
    (receiveCommand k a d s).session = s.session := rfl
@[simp] theorem receiveCommand_cal (k : CommandKind) (a : BusAddr) (d : Byte) (s : State) :
    (receiveCommand k a d s).cal = s.cal := rfl
@[simp] theorem receiveCommand_window (k : CommandKind) (a : BusAddr) (d : Byte) (s : State) :
    (receiveCommand k a d s).window = s.window := rfl
@[simp] theorem receiveCommand_cmd (k : CommandKind) (a : BusAddr) (d : Byte) (s : State) :
    (receiveCommand k a d s).cmd = s.cmd := rfl
@[simp] theorem receiveCommand_bus (k : CommandKind) (a : BusAddr) (d : Byte) (s : State) :
    (receiveCommand k a d s).bus = sourceOperations k a d s.bus := rfl

/-! ### captureCommand: by its one test, and true by rfl in each case -/

@[simp] theorem captureCommand_params (s : State) : (captureCommand s).params = s.params := by
  unfold captureCommand; split <;> rfl
@[simp] theorem captureCommand_script (s : State) : (captureCommand s).script = s.script := by
  unfold captureCommand; split <;> rfl
@[simp] theorem captureCommand_nav (s : State) : (captureCommand s).nav = s.nav := by
  unfold captureCommand; split <;> rfl
@[simp] theorem captureCommand_dbA (s : State) : (captureCommand s).dbA = s.dbA := by
  unfold captureCommand; split <;> rfl
@[simp] theorem captureCommand_dbB (s : State) : (captureCommand s).dbB = s.dbB := by
  unfold captureCommand; split <;> rfl
@[simp] theorem captureCommand_clock (s : State) : (captureCommand s).clock = s.clock := by
  unfold captureCommand; split <;> rfl
@[simp] theorem captureCommand_session (s : State) : (captureCommand s).session = s.session := by
  unfold captureCommand; split <;> rfl
@[simp] theorem captureCommand_cal (s : State) : (captureCommand s).cal = s.cal := by
  unfold captureCommand; split <;> rfl
@[simp] theorem captureCommand_window (s : State) : (captureCommand s).window = s.window := by
  unfold captureCommand; split <;> rfl
@[simp] theorem captureCommand_cmd (s : State) : (captureCommand s).cmd = s.cmd := by
  unfold captureCommand; split <;> rfl

end Sys2Proof.Machine
end

