-- ==== Sys2Proof/Laws/Ops.lean ====
section
/-!
SUPPORT. What each shared operation can do, said once: the lemmas to cite instead of unfolding it.
-/
namespace Sys2Proof.Machine

/-! ### Sequencing -/

@[simp] theorem andThen_next (s : State) (f : State → Result) : andThen (.next s) f = f s := rfl
@[simp] theorem andThen_fault (e : Fault) (f : State → Result) : andThen (.fault e) f = .fault e := rfl
@[simp] theorem andThen_refused (e : Refusal) (f : State → Result) : andThen (.refused e) f = .refused e := rfl
@[simp] theorem runAll_nil (s : State) : runAll [] s = .next s := rfl
@[simp] theorem runAll_cons (i : Instr) (is : List Instr) (s : State) :
    runAll (i :: is) s = andThen (exec i s) (runAll is) := rfl

/-- A sequence answers next only through a next state of its first part. -/
theorem andThen_eq_next {r : Result} {f : State → Result} {t : State} (h : andThen r f = .next t) :
    ∃ u, r = .next u ∧ f u = .next t := by
  cases r with
  | next u => exact ⟨u, rfl, h⟩
  | fault e => cases h
  | refused e => cases h

/-! ### The command port's two sides -/

/-- Capturing a command changes at most the bus collaborator's record. -/
theorem captureCommand_eq (s : State) : captureCommand s = { s with bus := (captureCommand s).bus } := by
  unfold captureCommand; split <;> rfl

/-- Without a valid command nothing is captured. -/
theorem captureCommand_of_invalid {s : State} (h : s.cmd.valid = false) : captureCommand s = s := by
  simp [captureCommand, h]

/-- A valid command is captured as R76's operations of its kind. -/
theorem captureCommand_of_valid {s : State} (h : s.cmd.valid = true) :
    captureCommand s = receiveCommand (commandKindOf s.cmd.kind) s.cmd.addr s.cmd.data s := by
  simp [captureCommand, h]

/-! ### The scratch cells -/

/-- A scratch write answers next exactly for the six cells of R50 (1), and changes only the cell it names. -/
theorem writeScratch_eq_next {i : Fin 7} {v : Byte} {s t : State} (h : writeScratch i v s = .next t) :
    ∃ hi : i.val < 6, t = { s with session := { s.session with scratch := s.session.scratch.set i.val v hi } } := by
  unfold writeScratch at h
  split at h
  · next hi => cases h; exact ⟨hi, rfl⟩
  · cases h

/-- A scratch write to one of the six cells completes. -/
theorem writeScratch_of_lt {i : Fin 7} {v : Byte} {s : State} (hi : i.val < 6) :
    writeScratch i v s =
      .next { s with session := { s.session with scratch := s.session.scratch.set i.val v hi } } := by
  simp [writeScratch, hi]

/-- Reading a cell after a write to it gives the byte written. -/
theorem readScratch_writeScratch_same {i : Fin 7} {v : Byte} {s t : State} (h : writeScratch i v s = .next t)
    (hi : i.val < 6) : readScratch t ⟨i.val, hi⟩ = v := by
  obtain ⟨_, rfl⟩ := writeScratch_eq_next h
  simp [readScratch]

/-- A write leaves every other cell as it was. -/
theorem readScratch_writeScratch_other {i : Fin 7} {v : Byte} {s t : State} (h : writeScratch i v s = .next t)
    (j : Fin 6) (hj : j.val ≠ i.val) : readScratch t j = readScratch s j := by
  obtain ⟨hi, rfl⟩ := writeScratch_eq_next h
  have : i.val ≠ j.val := fun e => hj e.symm
  simp [readScratch, this]

/-! ### Debounce -/

/-- An active sample of a record without `released` counts the tick and completes nothing (R101). -/
theorem debounce_active {heldW : Nat} {db : ButtonObservation} (h : db.released = false) :
    debounce heldW db false = ({ pressed := true, released := false, held := satInc heldW db.held }, none) := by
  simp [debounce, h]

/-- An inactive sample of a pressed record completes the cycle with the accumulated duration (R101). -/
theorem debounce_release {heldW : Nat} {db : ButtonObservation} (hp : db.pressed = true) (hh : 1 ≤ db.held) :
    debounce heldW db true = (ButtonObservation.clear, some db.held) := by
  simp [debounce, hp, hh, Config.debounceFloor]

/-- An inactive sample of a clear record changes nothing (R102 (b)). -/
theorem debounce_clear (heldW : Nat) :
    debounce heldW ButtonObservation.clear true = (ButtonObservation.clear, none) := by
  simp [debounce, ButtonObservation.clear, Config.debounceFloor]

/-! ### The engine -/

/-- What one collected calibration byte can do (R176, R177). -/
theorem collectCalibrationByte_eq_next {rdata : Byte} {s t : State} (h : collectCalibrationByte rdata s = .next t) :
    ∃ hi : s.session.byteIndex.val < 6,
      (s.session.byteIndex.val = 5 ∧
        t = calibrationDone
          { s with session := { s.session with scratch := s.session.scratch.set s.session.byteIndex.val rdata hi } }) ∨
      (s.session.byteIndex.val ≠ 5 ∧ nextCalibrationByte
          { s with session := { s.session with scratch := s.session.scratch.set s.session.byteIndex.val rdata hi } }
          = .next t) := by
  obtain ⟨u, hu, hf⟩ := andThen_eq_next h
  obtain ⟨hi, rfl⟩ := writeScratch_eq_next hu
  refine ⟨hi, ?_⟩
  by_cases h5 : s.session.byteIndex.val = 5
  · left
    simp only [Config.calBytes, h5] at hf
    simp only [if_true, Host.Outcome.next.injEq] at hf
    exact ⟨h5, by simpa [h5] using hf.symm⟩
  · right
    have : s.session.byteIndex.val + 1 ≠ Config.calBytes := by simp [Config.calBytes]; omega
    simp only [this, if_false] at hf
    exact ⟨h5, hf⟩

/-- What one raw byte can do (R185). -/
theorem collectRawByte_eq_next {rdata : Byte} {s t : State} (h : collectRawByte rdata s = .next t) :
    ∃ hi : s.session.byteIndex.val < 6,
      t = (if s.session.byteIndex.val = 0 then nextRawByte else finishAcquisition)
          { s with session := { s.session with scratch := s.session.scratch.set s.session.byteIndex.val rdata hi } } := by
  obtain ⟨u, hu, hf⟩ := andThen_eq_next h
  obtain ⟨hi, rfl⟩ := writeScratch_eq_next hu
  refine ⟨hi, ?_⟩
  simp only [Host.Outcome.next.injEq] at hf
  subst hf
  split <;> simp_all

/-! ### The cycle -/

/-- A step at a state whose script starts with an input word is the capture of the shown command and that word's cycle. -/
theorem step_input {s : State} {w : InputWord} {rest : List PortWord} (h : s.script = .input w :: rest) :
    step s = cycle (portsOf w) (captureCommand { s with script := rest }) := by
  simp [step, fetch, h, runWord]

/-- A step at a state whose script starts with a command word is the capture of the shown command and that command row's
meaning. -/
theorem step_command {s : State} {w : CommandWord} {rest : List PortWord} (h : s.script = .command w :: rest) :
    step s = exec (decodeCommand w) (captureCommand { s with script := rest }) := by
  simp [step, fetch, h, runWord]

end Sys2Proof.Machine
end

