-- ==== Sys2Proof/Laws/PerInstr.lean ====
section
/-!
SUPPORT. Per-instruction statements. The family FixedBits: the word of an operation carries the bits that its row of
spec/opcode_table.json fixes (its mask and match), for every value of its operands.
-/
namespace Sys2Proof.Laws.FixedBits

/-- An input word that has a row's fixed bits (R73). -/
def inputBits (mask value : InputWord) : PortWord → Prop
  | .input w => w &&& mask = value
  | .command _ => False

/-- A command word that has a row's KIND field (R76). -/
def commandBits (value : CommandWord) : PortWord → Prop
  | .input _ => False
  | .command w => w &&& 0x38000#18 = value

/-- The encoded word has the mask and match of the operation's own row. -/
def Statement : Instr → Prop
  | .rst => inputBits 0x00020#19 0x00020#19 (encode .rst)
  | .srst => inputBits 0x00030#19 0x00010#19 (encode .srst)
  | .secTick => inputBits 0x00021#19 0x00001#19 (encode .secTick)
  | .fineTick pa pb => inputBits 0x00022#19 0x00002#19 (encode (.fineTick pa pb))
  | .fineAActive pb => inputBits 0x00222#19 0x00002#19 (encode (.fineAActive pb))
  | .fineAInactive pb => inputBits 0x00222#19 0x00202#19 (encode (.fineAInactive pb))
  | .fineBActive pa => inputBits 0x00422#19 0x00002#19 (encode (.fineBActive pa))
  | .fineBInactive pa => inputBits 0x00422#19 0x00402#19 (encode (.fineBInactive pa))
  | .busNack => inputBits 0x00078#19 0x00048#19 (encode .busNack)
  | .busOk r d t => inputBits 0x00078#19 0x00008#19 (encode (.busOk r d t))
  | .coarseTick => inputBits 0x00034#19 0x00004#19 (encode .coarseTick)
  | .idle => inputBits 0x0003F#19 0x00000#19 (encode .idle)
  | .sendSingle a d => commandBits 0x00000#18 (encode (.sendSingle a d))
  | .sendStart a d => commandBits 0x08000#18 (encode (.sendStart a d))
  | .sendCont a d => commandBits 0x10000#18 (encode (.sendCont a d))
  | .sendFinish a d => commandBits 0x18000#18 (encode (.sendFinish a d))
  | .recvSingle a d => commandBits 0x20000#18 (encode (.recvSingle a d))
  | .recvStart a d => commandBits 0x28000#18 (encode (.recvStart a d))
  | .recvCont a d => commandBits 0x30000#18 (encode (.recvCont a d))
  | .recvFinish a d => commandBits 0x38000#18 (encode (.recvFinish a d))

/-- The KIND field of a command word is the kind it was written with. -/
theorem kind_mask (k : CommandKind) (a : BusAddr) (d : Byte) :
    commandWordOf k.bits a d &&& 0x38000#18 = k.bits.setWidth 18 <<< 15 := by
  apply BitVec.eq_of_getLsbD_eq
  intro m hm
  have cases18 : m = 0 ∨ m = 1 ∨ m = 2 ∨ m = 3 ∨ m = 4 ∨ m = 5 ∨ m = 6 ∨ m = 7 ∨ m = 8 ∨ m = 9 ∨ m = 10 ∨ m = 11 ∨
      m = 12 ∨ m = 13 ∨ m = 14 ∨ m = 15 ∨ m = 16 ∨ m = 17 := by omega
  rcases cases18 with rfl | rfl | rfl | rfl | rfl | rfl | rfl | rfl | rfl | rfl | rfl | rfl | rfl | rfl | rfl | rfl | rfl | rfl
    <;> simp [commandWordOf]

/-- The returned byte, DRDY and STOP stand outside the fixed bits of BUS_OK. -/
theorem busOk_mask (r : Byte) (d t : Bool) :
    inputWordOf { quietPorts with busEvt := true, busRdata := r, busDataReady := d, busStop := t } &&& 0x00078#19
      = 0x00008#19 := by
  apply BitVec.eq_of_getLsbD_eq
  intro m hm
  have cases19 : m = 0 ∨ m = 1 ∨ m = 2 ∨ m = 3 ∨ m = 4 ∨ m = 5 ∨ m = 6 ∨ m = 7 ∨ m = 8 ∨ m = 9 ∨ m = 10 ∨ m = 11 ∨
      m = 12 ∨ m = 13 ∨ m = 14 ∨ m = 15 ∨ m = 16 ∨ m = 17 ∨ m = 18 := by omega
  rcases cases19 with rfl | rfl | rfl | rfl | rfl | rfl | rfl | rfl | rfl | rfl | rfl | rfl | rfl | rfl | rfl | rfl | rfl | rfl
    | rfl <;> simp [inputWordOf, bitAt, quietPorts]

theorem rst : Statement .rst := by unfold Statement; rfl
theorem srst : Statement .srst := by unfold Statement; rfl
theorem secTick : Statement .secTick := by unfold Statement; rfl
theorem fineTick (pa pb : Bool) : Statement (.fineTick pa pb) := by unfold Statement; cases pa <;> cases pb <;> rfl
theorem fineAActive (pb : Bool) : Statement (.fineAActive pb) := by unfold Statement; cases pb <;> rfl
theorem fineAInactive (pb : Bool) : Statement (.fineAInactive pb) := by unfold Statement; cases pb <;> rfl
theorem fineBActive (pa : Bool) : Statement (.fineBActive pa) := by unfold Statement; cases pa <;> rfl
theorem fineBInactive (pa : Bool) : Statement (.fineBInactive pa) := by unfold Statement; cases pa <;> rfl
theorem busNack : Statement .busNack := by unfold Statement; rfl
theorem busOk (rdata : Byte) (drdy stop : Bool) : Statement (.busOk rdata drdy stop) := busOk_mask rdata drdy stop
theorem coarseTick : Statement .coarseTick := by unfold Statement; rfl
theorem idle : Statement .idle := by unfold Statement; rfl
theorem sendSingle (addr : BusAddr) (data : Byte) : Statement (.sendSingle addr data) := kind_mask .sendSingle addr data
theorem sendStart (addr : BusAddr) (data : Byte) : Statement (.sendStart addr data) := kind_mask .sendStart addr data
theorem sendCont (addr : BusAddr) (data : Byte) : Statement (.sendCont addr data) := kind_mask .sendCont addr data
theorem sendFinish (addr : BusAddr) (data : Byte) : Statement (.sendFinish addr data) := kind_mask .sendFinish addr data
theorem recvSingle (addr : BusAddr) (data : Byte) : Statement (.recvSingle addr data) := kind_mask .recvSingle addr data
theorem recvStart (addr : BusAddr) (data : Byte) : Statement (.recvStart addr data) := kind_mask .recvStart addr data
theorem recvCont (addr : BusAddr) (data : Byte) : Statement (.recvCont addr data) := kind_mask .recvCont addr data
theorem recvFinish (addr : BusAddr) (data : Byte) : Statement (.recvFinish addr data) := kind_mask .recvFinish addr data

end Sys2Proof.Laws.FixedBits
end

