-- ==== Sys2Proof/Tests/Slice0.lean ====
section
/-!
SUPPORT. The model's own tests: the WellFormed smoke tests, every row's decoding from a word written out from the spec, the
vectors of spec/95_test_vectors.md (each test's comment names its vector), and one witness theorem for the hypotheses of each
statement of Certificates/Slice0/Obligations.lean.
-/
namespace Sys2Proof.Tests
open Sys2Proof Sys2Proof.Machine

/-- A check of the next state of an outcome; false where it stopped. -/
def onNext (r : Result) (f : State → Bool) : Bool :=
  match r with
  | .next s => f s
  | .fault _ => false
  | .refused _ => false

/-- The reset state with a mode, an idle count and two debouncer records. -/
def withButtons (m : Mode) (idle : Fin 300) (a b : ButtonObservation) : State :=
  { State.reset with nav := { mode := m, idleCnt := idle }, dbA := a, dbB := b }

/-- A debouncer record {1, 0, n}. -/
def heldFor (n : Nat) : ButtonObservation := { pressed := true, released := false, held := n }

/-- The record {0, 0, 0}. -/
def up : ButtonObservation := ButtonObservation.clear

/-- The reset state with a protocol state and its two counters, calibrated with the constants of V-CMP-1 if `cv`. -/
def withEngine (q : ProtocolState) (i b : Fin 7) (cv : Bool) : State :=
  { State.reset with
    session := { ps := q, byteIndex := i, burstCnt := b, scratch := #v[0x72#8, 0x6C#8, 0x2E#8, 0x69#8, 0xCF#8, 0#8] }
    cal := { t1 := 27504#16, t2 := 26435#16, t3 := (-1000 : BitVec 16), calValid := cv } }

/-- A state with words on the ports. -/
def onWords (ws : List InputWord) (s : State) : State := { s with script := ws.map .input }

/-! ### WellFormed smoke tests: each check refuses an ill-formed term -/

theorem test_wf_refuses_reserved_kind : (Instr.sendCont 0x76#7 0x00#8).wellFormed = false := by decide
theorem test_wf_refuses_receive_with_data : (Instr.recvSingle 0x76#7 0x01#8).wellFormed = false := by decide
theorem test_wf_refuses_burst_receive_with_data : (Instr.recvFinish 0x76#7 0xFF#8).wellFormed = false := by decide
theorem test_wf_accepts_receive : (Instr.recvSingle 0x76#7 0x00#8).wellFormed = true := by decide

/-! ### Decoding: the words of R88, R79 and section 2.12, written out from the field tables of R70 and R75 -/

-- IW bits 18..11 RDATA, 10 PB, 9 PA, 8 STOP, 7 DRDY, 6 NACK, 5 RST, 4 SRST, 3 BUSEV, 2 COARSE, 1 FINE, 0 SEC.
theorem test_decode_rst : matchingRows 0b00000000_1_1_0_0_0_1_0_0_0_0_0#19 = [.rst] := by decide
theorem test_decode_srst : matchingRows 0b00000000_1_1_0_0_0_0_1_0_0_0_0#19 = [.srst] := by decide
theorem test_decode_sec : matchingRows 0b00000000_1_1_0_0_0_0_0_0_0_0_1#19 = [.secTick] := by decide
theorem test_decode_fine : matchingRows 0b00000000_1_1_0_0_0_0_0_0_0_1_0#19 =
    [.fineTick true true, .fineAInactive true, .fineBInactive true] := by decide
theorem test_decode_fine_a0 : matchingRows 0b00000000_1_0_0_0_0_0_0_0_0_1_0#19 =
    [.fineTick false true, .fineAActive true, .fineBInactive false] := by decide
theorem test_decode_fine_b0 : matchingRows 0b00000000_0_1_0_0_0_0_0_0_0_1_0#19 =
    [.fineTick true false, .fineAInactive false, .fineBActive true] := by decide
theorem test_decode_coarse : matchingRows 0b00000000_1_1_0_0_0_0_0_0_1_0_0#19 = [.coarseTick] := by decide
theorem test_decode_bus_ok : matchingRows 0b01101100_1_1_0_0_0_0_0_1_0_0_0#19 = [.busOk 0x6C#8 false false] := by decide
theorem test_decode_bus_flags : matchingRows 0b00000001_1_1_1_0_0_0_0_1_0_0_0#19 = [.busOk 0x01#8 false true] := by decide
theorem test_decode_bus_nack : matchingRows 0b00000000_1_1_0_0_1_0_0_1_0_0_0#19 = [.busNack] := by decide
theorem test_decode_idle : matchingRows 0b00000000_1_1_0_0_0_0_0_0_0_0_0#19 = [.idle] := by decide
theorem test_decode_rst_excludes_all : matchingRows 0b11111111_1_1_1_1_1_1_1_1_1_1_1#19 = [.rst] := by decide
-- CMDW bits 17..15 KIND, 14..8 ADDR, 7..0 DATA.
theorem test_decode_send_single : decodeCommand 0b000_1110110_10001000#18 = .sendSingle 0x76#7 0x88#8 := by decide
theorem test_decode_send_start : decodeCommand 0b001_1110110_11110100#18 = .sendStart 0x76#7 0xF4#8 := by decide
theorem test_decode_send_cont : decodeCommand 0b010_1110110_00000000#18 = .sendCont 0x76#7 0x00#8 := by decide
theorem test_decode_send_finish : decodeCommand 0b011_1110110_00100001#18 = .sendFinish 0x76#7 0x21#8 := by decide
theorem test_decode_recv_single : decodeCommand 0b100_1110110_00000000#18 = .recvSingle 0x76#7 0x00#8 := by decide
theorem test_decode_recv_start : decodeCommand 0b101_1110110_00000000#18 = .recvStart 0x76#7 0x00#8 := by decide
theorem test_decode_recv_cont : decodeCommand 0b110_1110110_00000000#18 = .recvCont 0x76#7 0x00#8 := by decide
theorem test_decode_recv_finish : decodeCommand 0b111_1110110_00000000#18 = .recvFinish 0x76#7 0x00#8 := by decide
-- The encoder gives the hexadecimal words of R88 and R79.
theorem test_encode_bus_ok : encode (.busOk 0x6C#8 false false) = .input 0x36608#19 := by decide
theorem test_encode_fine_a0 : encode (.fineAActive true) = .input 0x00402#19 := by decide
theorem test_encode_send_finish : encode (.sendFinish 0x76#7 0x21#8) = .command 0x1F621#18 := by decide
-- Rejections by name.
theorem test_decode_too_wide : decodeNumber 8 0x80000 = .error .inputTooWide := by rfl
theorem test_decode_several : decodeNumber 16 0x00607 = .error .severalOperations := by rfl

/-! ### The table's words, decoded and run as the first operation after reset -/

theorem test_table_rst : decodeTableWord 8 0x20 = some .rst := by rfl
theorem test_table_fine_a_inactive : decodeTableWord 16 0x202 = some (.fineAInactive false) := by rfl
theorem test_table_fine_b_inactive : decodeTableWord 16 0x402 = some (.fineBInactive false) := by rfl
theorem test_table_idle : decodeTableWord 8 0 = some .idle := by rfl
theorem test_table_send_single : decodeTableWord 24 0 = some (.sendSingle 0#7 0#8) := by rfl
theorem test_table_run_fine : onNext (step (State.reset.withFetchWord 8 0x02))
    (fun t => t.dbA == heldFor 1 && t.dbB == heldFor 1 && t.script == []) = true := by decide
theorem test_table_run_coarse : onNext (step (State.reset.withFetchWord 8 0x04))
    (fun t => outputCommandWord t == 0x07688#18 && t.cmd.valid) = true := by decide

/-! ### Debounce, classification, timeout (vectors V-DB, V-CL, V-TO) -/

theorem test_debounce_saturates : debounce 16 (heldFor 65535) false = (heldFor 65535, none) := by decide -- V-DB-6
theorem test_debounce_floor : debounce 16 (heldFor 1) true = (up, some 1) := by decide -- V-DB-5
theorem test_classify_gap : classify .showTemperature 99 = .showTemperature := by decide -- V-CL-4
theorem test_classify_long : classify .showTemperature 300 = .editHours := by decide -- V-CL-6
theorem test_fine_timeout : onNext (exec (.fineTick true true) (withButtons .showClock 299 (heldFor 20) up))
    (fun t => t.nav == { mode := .showTemperature, idleCnt := 0 } && t.dbA == up) = true := by decide -- V-TO-4
theorem test_fine_gate : onNext (exec (.fineTick true true) (withButtons .showTemperature 0 (heldFor 150) (heldFor 10)))
    (fun t => t.nav.mode == .editHours && t.clock == State.reset.clock) = true := by decide -- V-TO-7
theorem test_fineAActive : onNext (exec (.fineAActive true) (withButtons .showTemperature 0 (heldFor 5) up))
    (fun t => t.dbA == heldFor 6 && t.dbB == up && t.nav.mode == .showTemperature) = true := by decide -- V-DB-3
theorem test_fineAInactive : onNext (exec (.fineAInactive true) (withButtons .showTemperature 0 (heldFor 5) up))
    (fun t => t.dbA == up && t.nav == { mode := .showClock, idleCnt := 0 }) = true := by decide -- V-TO-6
theorem test_fineBActive : onNext (exec (.fineBActive true) (withButtons .editHours 0 up up))
    (fun t => t.dbB == heldFor 1 && t.dbA == up && t.clock == State.reset.clock) = true := by decide -- V-DB-2
theorem test_fineBInactive : onNext (exec (.fineBInactive true)
      { withButtons .editMinutes 0 up (heldFor 50) with clock := { hh := 4, mm := 59, ss := 0 } })
    (fun t => t.clock == { hh := 4, mm := 0, ss := 0 } && t.dbB == up) = true := by decide -- V-DI-6

/-! ### Clock (vectors V-CK) -/

theorem test_sec_wrap : onNext (exec .secTick { State.reset with clock := { hh := 23, mm := 59, ss := 59 } })
    (fun t => t.clock == { hh := 0, mm := 0, ss := 0 }) = true := by decide -- V-CK-6
theorem test_sec_and_fine : onNext (step (onWords [0x00603#19]
      { withButtons .editMinutes 0 up (heldFor 5) with clock := { hh := 23, mm := 59, ss := 59 } }))
    (fun t => t.clock == { hh := 0, mm := 1, ss := 0 }) = true := by decide -- V-CK-7

/-! ### Sensor engine (vectors V-PR, V-NK, V-SR, V-RD, V-AS, V-CMP, V-WN) -/

theorem test_coarse_acquire : onNext (exec .coarseTick (withEngine .configFinished 0 0 true))
    (fun t => t.session.ps == .adcStatusConfig && outputCommandWord t == 0x0F6F4#18) = true := by decide -- V-PR-6
theorem test_coarse_dropped : onNext (exec .coarseTick (withEngine .adcStatus 0 0 true))
    (fun t => t == withEngine .adcStatus 0 0 true) = true := by decide -- V-PR-15
theorem test_bus_last_calibration_byte : onNext (exec (.busOk 0xFD#8 false false)
      { withEngine .writeCalibration 5 6 false with
        session := { ps := .writeCalibration, byteIndex := 5, burstCnt := 6
                     scratch := #v[0x01#8, 0x6C#8, 0x2E#8, 0x69#8, 0xCF#8, 0#8] } })
    (fun t => t.cal == { t1 := 27649#16, t2 := 26926#16, t3 := (-561 : BitVec 16), calValid := true } &&
      t.session.ps == .configFinished) = true := by decide -- V-PR-5
theorem test_bus_second_raw_byte : onNext (exec (.busOk 0x00#8 false false)
      { withEngine .adcReadingInProgress 1 2 true with window := { State.reset.window with count := 3 } })
    (fun t => t.window.win[3] == 846#16 && t.window.count == 4 && t.session.ps == .configFinished) = true := by decide -- V-PR-14
theorem test_bus_beats_coarse : onNext (step (onWords [0x00E0C#19] (withEngine .adcWaitForMeasureFinish 0 1 true)))
    (fun t => t.session.ps == .adcStartReading && outputCommandWord t == 0x076FA#18) = true := by decide -- V-PR-18
theorem test_coarse_beats_unsolicited : onNext (step (onWords [0x0060C#19] (withEngine .configFinished 0 0 true)))
    (fun t => t.session.ps == .adcStatusConfig && outputCommandWord t == 0x0F6F4#18) = true := by decide -- V-PR-17
theorem test_nack : onNext (exec .busNack (withEngine .adcReadingInProgress 1 2 true))
    (fun t => t.session.ps == .error && t.session.byteIndex == 1 && sensorFault t) = true := by decide -- V-NK-8
theorem test_nack_in_error : onNext (exec .busNack (withEngine .error 1 2 true))
    (fun t => t == withEngine .error 1 2 true) = true := by decide -- V-NK-9
theorem test_srst_beats_nack : onNext (step (onWords [0x00658#19] (withEngine .error 1 2 false)))
    (fun t => t.session.ps == .readCalibration && t.session.byteIndex == 0 && t.session.burstCnt == 0) = true := by
  decide -- V-SR-1
theorem test_srst_calibrated : onNext (exec .srst (withEngine .error 1 2 true))
    (fun t => t.session.ps == .configFinished) = true := by decide -- V-SR-2
theorem test_ready_literal : ready Params.defaults 0x09#8 = true ∧ ready Params.defaults 0x08#8 = false := by decide -- V-RD-1
theorem test_ready_cleared : ready { Params.defaults with readyMask := 0x08#8, readyWhenSet := false } 0x01#8 = true := by
  decide -- V-RD-3
theorem test_compensate_negative : compensate 419584 27504 26435 (-1000) 0 = -646 := by decide -- V-CMP-1
theorem test_compensate_clamps : compensate 1048560 27504 26435 (-1000) 50 = 8500 := by decide -- V-CMP-4
theorem test_mean_truncates_to_zero :
    (windowAppend (toReg16 (-646)) { win := Vector.replicate 10 (toReg16 (-1000)), count := 9, avg := 55#16, avgValid := true }).avg
      = toReg16 (-964) := by decide -- V-WN-2

/-! ### Reset, idle and the command rows (R270, R72, R76) -/

theorem test_rst : onNext (exec .rst (withEngine .error 1 2 true)) (fun t => t == State.reset) = true := by decide
theorem test_rst_dominates : onNext (step (onWords [0x00626#19] (withButtons .editHours 0 (heldFor 9) up)))
    (fun t => t == State.reset) = true := by decide -- P6, cycle 5
theorem test_idle : onNext (exec .idle { State.reset with cmd := { valid := true, kind := 1#3, addr := 2#7, data := 3#8 } })
    (fun t => t == State.reset) = true := by decide
/-- A state that shows a command and whose collaborator has been told SEND_START with REG_CTRL_MEAS. -/
def withBus : State :=
  { State.reset with
    cmd := { valid := true, kind := 1#3, addr := 0x76#7, data := 0xF4#8 }
    bus := { addr := 0x76#7, isRead := false, byteOut := 0xF4#8, started := some .sendStart } }

theorem test_send_single : onNext (exec (.sendSingle 0x76#7 0x88#8) withBus) (fun t => t.cmd == BusCommand.none && t.bus ==
    { addr := 0x76#7, isRead := false, byteOut := 0x88#8, started := some .sendSingle }) = true := by decide
theorem test_send_start : onNext (exec (.sendStart 0x76#7 0xF4#8) withBus) (fun t => t.cmd == BusCommand.none && t.bus ==
    { addr := 0x76#7, isRead := false, byteOut := 0xF4#8, started := some .sendStart }) = true := by decide
theorem test_send_finish : onNext (exec (.sendFinish 0x12#7 0x21#8) withBus) (fun t => t.cmd == BusCommand.none && t.bus ==
    { addr := 0x76#7, isRead := false, byteOut := 0x21#8, started := some .sendFinish }) = true := by decide
theorem test_recv_single : onNext (exec (.recvSingle 0x12#7 0#8) withBus) (fun t => t.cmd == BusCommand.none && t.bus ==
    { addr := 0x12#7, isRead := true, byteOut := 0xF4#8, started := some .recvSingle }) = true := by decide
theorem test_recv_start : onNext (exec (.recvStart 0x12#7 0#8) withBus) (fun t => t.cmd == BusCommand.none && t.bus ==
    { addr := 0x12#7, isRead := true, byteOut := 0xF4#8, started := some .recvStart }) = true := by decide
theorem test_recv_cont : onNext (exec (.recvCont 0x12#7 0#8) withBus) (fun t => t.cmd == BusCommand.none && t.bus ==
    { addr := 0x76#7, isRead := false, byteOut := 0xF4#8, started := some .recvCont }) = true := by decide
theorem test_recv_finish : onNext (exec (.recvFinish 0x12#7 0#8) withBus) (fun t => t.cmd == BusCommand.none && t.bus ==
    { addr := 0x76#7, isRead := false, byteOut := 0xF4#8, started := some .recvFinish }) = true := by decide
theorem test_capture : onNext (step { withBus with bus := BusInterface.quiet }) (fun t => t.cmd == BusCommand.none &&
    t.bus == withBus.bus) = true := by decide

/-! ### Witnesses: a state and operands that meet a statement's hypotheses, clause by clause -/

/-- The invariants from their decidable parts. -/
theorem inv_of (s : State) (h : s.params.wf ∧ NavigationOk s.nav ∧ ButtonOk s.params.heldW s.dbA ∧
    ButtonOk s.params.heldW s.dbB ∧ SessionOk s.session = true ∧ CalibrationOk s.session s.cal ∧ WindowOk s.window) :
    s.Inv :=
  ⟨h.1, h.2.1, h.2.2.1, h.2.2.2.1, h.2.2.2.2.1, h.2.2.2.2.2.1, h.2.2.2.2.2.2⟩

/-- EncodedWordDecodesToItsInstruction: a fine tick's word has three names. -/
theorem witness_encoded_rows : Instr.fineBInactive false ∈ decodeWord (encode (.fineAActive true)) := by decide

/-- CycleRunsMatchingRows: words that meet each clause's hypothesis. -/
theorem witness_cycle_rows : (portsOf 0x00626#19).rst = true ∧ Instr.secTick ∈ matchingRows 0x00607#19 ∧
    Instr.fineTick true true ∈ matchingRows 0x00607#19 ∧ Instr.idle ∈ matchingRows 0x00600#19 ∧
    Instr.coarseTick ∈ matchingRows 0x00607#19 ∧ Instr.srst ∈ matchingRows 0x00658#19 ∧
    Instr.busNack ∈ matchingRows 0x00648#19 ∧ Instr.busOk 0#8 false false ∈ matchingRows 0x00608#19 := by decide

/-- StepRunsDecodedInstruction: an input word and a command word. -/
theorem witness_step_decoded : decodeTableWord 16 0x402 = some (.fineBInactive false) ∧
    decodeTableWord 24 0x07688 = some (.sendSingle 0x76#7 0x88#8) := ⟨rfl, rfl⟩

/-- StepTakesTheScriptsFirstWord: a state for each of its three clauses. -/
theorem witness_script_forms : (onWords [0x00601#19] State.reset).script = .input 0x00601#19 :: [] ∧
    (pushWord (.command 0x07688#18) State.reset).script = .command 0x07688#18 :: [] ∧ State.reset.script = [] := by decide

/-- StepIsOneAssignmentFromThePreState: a word with SEC, FINE and COARSE. -/
theorem witness_one_assignment : (onWords [0x00607#19] State.reset).script = .input 0x00607#19 :: [] := by decide

/-- DontCareFieldsDoNotMatter: two different port samples that agree where the event bits look. -/
theorem witness_dont_care : ∃ p q : InputPorts, p ≠ q ∧ p.sec = q.sec ∧ p.fine = q.fine ∧ p.coarse = q.coarse ∧
    p.busEvt = q.busEvt ∧ p.srst = q.srst ∧ p.rst = q.rst ∧
    (p.fine = true → p.btnAN = q.btnAN ∧ p.btnBN = q.btnBN) ∧
    (p.busEvt = true → p.busNack = q.busNack ∧ p.busRdata = q.busRdata) :=
  ⟨{ quietPorts with busEvt := true, busDataReady := true, btnAN := false }, { quietPorts with busEvt := true }, by decide⟩

/-- StepsConsumeOneWordAndKeepParameters, EveryStepKeepsTheInvariants, HeldTicksNeverDecrementExceptToZero: a state that meets
the invariants and steps. -/
theorem witness_inv_step : ∃ s t : State, s.Inv ∧ step s = .next t :=
  ⟨onWords [0x00402#19] (withButtons .showTemperature 0 (heldFor 7) (heldFor 1)), _, inv_of _ (by decide), rfl⟩

/-- EveryStepKeepsTheInvariants, its second part: a step that keeps R38 (f), and the NACK of program P5b, which does not. -/
theorem witness_index : ∃ s t s' t' : State, s.Inv ∧ IndexOk s.session ∧ step s = .next t ∧ IndexOk t.session ∧
    s'.Inv ∧ IndexOk s'.session ∧ step s' = .next t' ∧ t'.session.ps = .error ∧ t'.session.byteIndex = 1 :=
  ⟨onWords [0x00608#19] (withEngine .writeCalibration 1 2 false), _, onWords [0x00648#19] (withEngine .writeCalibration 1 2 false),
   _, inv_of _ (by decide), by decide, rfl, by decide, inv_of _ (by decide), by decide, rfl, by decide, by decide⟩

/-- EveryStepKeepsTheInvariants, its third part: a step that stays in Error, and one that leaves it. -/
theorem witness_error_index : ∃ s t s' t' : State, s.session.ps = .error ∧ s.session.byteIndex = 1 ∧ step s = .next t ∧
    t.session.ps = .error ∧ s'.session.ps = .error ∧ step s' = .next t' ∧ t'.session.ps ≠ .error :=
  ⟨onWords [0x00608#19] (withEngine .error 1 2 false), _, onWords [0x00610#19] (withEngine .error 1 2 false), _,
   by decide, by decide, rfl, by decide, by decide, rfl, by decide⟩

/-- RstGivesTheResetState: RST with every other event, from a busy state. -/
theorem witness_rst : (onWords [0x0067F#19] (withEngine .error 1 2 true)).script = .input 0x0067F#19 :: [] ∧
    (portsOf 0x0067F#19).rst = true := by decide

/-- ResetMeetsTheInvariants: a state with parameters in range. -/
theorem witness_reset_parameters : ∃ s t : State, s.params.wf ∧ exec .rst s = .next t :=
  ⟨withEngine .error 1 2 true, _, by decide, rfl⟩

/-- FineBranchRowsComplete: each clause's record, at the debounce floor. -/
theorem witness_fine_branches : (withButtons .editHours 0 up up).dbA.released = false ∧
    (withButtons .editHours 0 up up).nav.mode ≠ .showClock ∧
    (withButtons .editHours 0 (heldFor 1) (heldFor 1)).dbA.pressed = true ∧
    1 ≤ (withButtons .editHours 0 (heldFor 1) (heldFor 1)).dbA.held ∧
    (withButtons .editHours 0 up up).dbB.released = false ∧
    (withButtons .editHours 0 (heldFor 1) (heldFor 1)).dbB.pressed = true ∧
    1 ≤ (withButtons .editHours 0 (heldFor 1) (heldFor 1)).dbB.held := by decide

/-- ModeTransitionRelation: steps with and without FINE, in ShowClock at the expiry and in ShowTemperature. -/
theorem witness_mode_relation : ∃ s t s' t' s'' t'' : State,
    s.script = .input 0x00602#19 :: [] ∧ s.nav.mode = .showClock ∧ s.nav.idleCnt.val + 1 = 300 ∧ step s = .next t ∧
    s'.script = .input 0x00602#19 :: [] ∧ s'.nav.mode ≠ .showClock ∧ step s' = .next t' ∧
    s''.script = .input 0x00601#19 :: [] ∧ step s'' = .next t'' ∧
    (portsOf 0x00602#19).rst = false ∧ (portsOf 0x00602#19).fine = true ∧
    (portsOf 0x00601#19).rst = false ∧ (portsOf 0x00601#19).fine = false :=
  ⟨onWords [0x00602#19] (withButtons .showClock 299 up up), _,
   onWords [0x00602#19] (withButtons .showTemperature 0 (heldFor 90) up), _,
   onWords [0x00601#19] State.reset, _, by decide, by decide, by decide, rfl, by decide, by decide, rfl, by decide, rfl,
   by decide⟩

/-- A run of `n` equal fine ticks counts `n`. -/
theorem countFine_replicate (v : InputWord) (hv : (portsOf v).fine = true) (n : Nat) :
    countFine (List.replicate n v) = n := by
  induction n with
  | zero => rfl
  | succ n ih => rw [List.replicate_succ]; simp only [countFine, List.filter_cons, hv, if_true, List.length_cons] at ih ⊢; omega

/-- ShowClockExpiresAfterExactly300FineTicks: a press of 90 ticks at its release, then no fine tick, or 300 of them. -/
theorem witness_show_clock_entry : ∃ (s : State) (w v : InputWord), s.Inv ∧ s.nav.mode = .showTemperature ∧
    (portsOf w).rst = false ∧ (portsOf w).fine = true ∧ (portsOf w).btnAN = true ∧ 1 ≤ s.dbA.held ∧ s.dbA.held ≤ 90 ∧
    (∀ u ∈ List.replicate 300 v, (portsOf u).rst = false) ∧ countFine [] < 300 ∧ countFine (List.replicate 300 v) = 300 :=
  ⟨withButtons .showTemperature 0 (heldFor 90) up, 0x00602#19, 0x00602#19, inv_of _ (by decide), by decide, by decide,
   by decide, by decide, by decide, by decide, fun u hu => by rw [List.eq_of_mem_replicate hu]; decide, by decide,
   countFine_replicate 0x00602#19 (by decide) 300⟩

/-- PressAOfNTicksClassifiesAsN and PressBOfNTicksIncrementsOnce: an edit mode with both records clear, one tick. -/
theorem witness_press : ∃ (s : State) (n : Nat), s.Inv ∧ s.dbA = ButtonObservation.clear ∧ s.dbB = ButtonObservation.clear ∧
    s.nav.mode ≠ .showClock ∧ 1 ≤ n :=
  ⟨withButtons .editHours 0 up up, 1, inv_of _ (by decide), by decide, by decide, by decide, by decide⟩

/-- ClockTimeComposesAdvanceThenDigit: SEC and FINE in one step without RST. -/
theorem witness_clock_step : ∃ s t : State, s.script = .input 0x00603#19 :: [] ∧ (portsOf 0x00603#19).rst = false ∧
    step s = .next t :=
  ⟨onWords [0x00603#19] (withButtons .editMinutes 0 up (heldFor 5)), _, by decide, by decide, rfl⟩

/-- CoarseTickCompletes: a state for each clause. -/
theorem witness_coarse : State.reset.session.ps = .readCalibration ∧
    (withEngine .configFinished 0 0 true).session.ps = .configFinished ∧
    (withEngine .error 1 2 true).session.ps.isIdle = false := by decide

/-- BusOkReadsTheCalibration: the burst's start, the first byte, the fifth byte and the last. -/
theorem witness_calibration_bytes :
    (withEngine .writeCalibration 0 0 false).session.ps = .writeCalibration ∧
    (withEngine .writeCalibration 0 0 false).session.burstCnt = 0 ∧
    (withEngine .writeCalibration 0 1 false).session.byteIndex.val = (0 : Fin 6).val ∧
    1 ≤ (withEngine .writeCalibration 0 1 false).session.burstCnt.val ∧
    (withEngine .writeCalibration 4 5 false).session.byteIndex.val = (4 : Fin 6).val ∧ (4 : Fin 6).val ≤ 4 ∧
    (withEngine .writeCalibration 4 5 false).session.burstCnt.val ≤ 5 ∧
    (withEngine .writeCalibration 5 6 false).session.byteIndex.val = 5 ∧
    1 ≤ (withEngine .writeCalibration 5 6 false).session.burstCnt.val := by decide

/-- BusOkRunsTheAcquisitionCommands: a state for each clause, and both outcomes of the ready test. -/
theorem witness_acquisition_commands :
    (withEngine .adcStatusConfig 0 0 true).session.ps = .adcStatusConfig ∧
    (withEngine .adcStatus 0 0 true).session.ps = .adcStatus ∧
    (withEngine .adcWaitForMeasureFinish 0 0 true).session.burstCnt = 0 ∧
    (withEngine .adcWaitForMeasureFinish 0 1 true).session.burstCnt = 1 ∧
    ready (withEngine .adcWaitForMeasureFinish 0 1 true).params 0x01#8 = true ∧
    ready (withEngine .adcWaitForMeasureFinish 0 1 true).params 0x00#8 = false ∧
    (withEngine .adcStartReading 0 0 true).session.ps = .adcStartReading := by decide

/-- BusOkReadsTheTemperature: the first byte, the second, and a state that waits for no bus event. -/
theorem witness_raw_bytes :
    (withEngine .adcReadingInProgress 0 1 true).session.ps = .adcReadingInProgress ∧
    (withEngine .adcReadingInProgress 0 1 true).session.byteIndex = 0 ∧
    (withEngine .adcReadingInProgress 1 2 true).session.byteIndex = 1 ∧
    (withEngine .error 1 2 true).session.ps.isWaiting = false := by decide

/-- UnreachableSessionsStop: a state for each clause, at the boundary of its range. -/
theorem witness_unreachable_sessions :
    (withEngine .writeCalibration 4 6 false).session.burstCnt.val = 6 ∧
    (withEngine .writeCalibration 4 6 false).session.byteIndex.val ≤ 4 ∧
    1 ≤ (withEngine .writeCalibration 6 1 false).session.burstCnt.val ∧
    (withEngine .writeCalibration 6 1 false).session.byteIndex.val = 6 ∧
    2 ≤ (withEngine .adcWaitForMeasureFinish 0 2 true).session.burstCnt.val ∧
    (withEngine .adcReadingInProgress 6 2 true).session.byteIndex.val = 6 := by decide

/-- EngineTransitionsFollowTheTable: SRST with a NACK, a NACK, and a plain bus event. -/
theorem witness_engine_table : ∃ s t s' t' s'' t'' : State,
    s.script = .input 0x00658#19 :: [] ∧ step s = .next t ∧ (portsOf 0x00658#19).srst = true ∧
    s'.script = .input 0x00648#19 :: [] ∧ step s' = .next t' ∧ (portsOf 0x00648#19).srst = false ∧
    (portsOf 0x00648#19).busEvt = true ∧ (portsOf 0x00648#19).busNack = true ∧
    s''.script = .input 0x00608#19 :: [] ∧ step s'' = .next t'' ∧ (portsOf 0x00608#19).busNack = false ∧
    (portsOf 0x00608#19).rst = false :=
  ⟨onWords [0x00658#19] (withEngine .error 1 2 true), _, onWords [0x00648#19] (withEngine .adcStatus 0 0 true), _,
   onWords [0x00608#19] (withEngine .adcStatus 0 0 true), _, by decide, rfl, by decide, by decide, rfl, by decide, by decide,
   by decide, by decide, rfl, by decide, by decide⟩

/-- ErrorIsAbsorbing: Error with a NACK, a tick of each kind and a completion to come. -/
theorem witness_error_run : (withEngine .error 1 2 true).session.ps = .error ∧
    (∀ w ∈ [0x00648#19, 0x00607#19, 0x00608#19], (portsOf w).rst = false ∧ (portsOf w).srst = false) :=
  ⟨by decide, fun w hw => by
    simp only [List.mem_cons, List.not_mem_nil, or_false] at hw
    rcases hw with rfl | rfl | rfl <;> decide⟩

/-- ErrorIsAbsorbing, its last clause: the same run from another state of the engine answers a next state. -/
theorem witness_error_other_engine : ∃ t : State,
    runWords [0x00648#19, 0x00607#19, 0x00608#19]
      { withEngine .error 1 2 true with session := State.reset.session } = .next t := ⟨_, rfl⟩

/-- CalibrationIsImmutableUntilReset: a calibrated state with an SRST and a bus event to come. -/
theorem witness_calibrated_run : ∃ (s : State) (ws : List InputWord), s.Inv ∧ s.cal.calValid = true ∧
    ∀ w ∈ ws, (portsOf w).rst = false :=
  ⟨withEngine .adcReadingInProgress 1 2 true, [0x00608#19, 0x00610#19], inv_of _ (by decide), by decide, fun w hw => by
    simp only [List.mem_cons, List.not_mem_nil, or_false] at hw
    rcases hw with rfl | rfl <;> decide⟩

/-- CalibrationReadTakesOneCoarseAndSevenBusEvents and AcquisitionWithKPollsAppendsOneSample: their start states. -/
theorem witness_cycles_start : State.reset.session.ps = .readCalibration ∧
    (withEngine .configFinished 0 0 true).session.ps = .configFinished ∧
    ready (withEngine .configFinished 0 0 true).params 0x00#8 = false ∧
    ready (withEngine .configFinished 0 0 true).params 0x01#8 = true := by decide

/-- ReadyTestFollowsItsParameters: both polarities. -/
theorem witness_ready_polarity : Params.defaults.readyWhenSet = true ∧
    ({ Params.defaults with readyWhenSet := false } : Params).readyWhenSet = false := by decide

/-- OnlyListedCommandsAreEmitted: a step that issues a command. -/
theorem witness_emitted : ∃ s t : State, CommandOk s.params s.cmd ∧ step s = .next t ∧ t.cmd.valid = true :=
  ⟨onWords [0x00604#19] State.reset, _, by decide, rfl, by decide⟩

/-- CommandRowsReachTheBusCollaborator: a state that shows a command, and one that shows none. -/
theorem witness_capture : withBus.cmd.valid = true ∧ withBus.cmd.kind = CommandKind.sendStart.bits ∧
    State.reset.cmd.valid = false := by decide

/-- CommandsAreIssuedOnlyByEngineEvents and WaitingMeansACommandIsOutstanding: a completion that issues the next command. -/
theorem witness_issue : ∃ s t : State, s.script = .input 0x00608#19 :: [] ∧ step s = .next t ∧ t.cmd.valid = true ∧
    s.session.ps.isWaiting = true ∧ outstandingAfter true (portsOf 0x00608#19) t = some true ∧
    t.session.ps.isWaiting = true :=
  ⟨onWords [0x00608#19] (withEngine .adcStatus 0 0 true), _, by decide, rfl, by decide, by decide, by decide, by decide⟩

/-- TemperatureRegistersHoldTheirValues: a window at both ends of the clamp. -/
theorem witness_samples : SampleOk (toReg16 (-4000)) ∧ SampleOk (toReg16 8500) ∧
    ∀ i : Fin 10, SampleOk (Vector.replicate 10 (toReg16 (-4000)))[i] :=
  ⟨by decide, by decide, fun i => by
    rw [Fin.getElem_fin, Vector.getElem_replicate]; decide⟩

/-- TenSamplesPublishTheirMean: fills of nine and of ten samples from an empty cursor. -/
theorem witness_fill : State.reset.window.count = 0 ∧ (List.replicate 9 (toReg16 5)).length < 10 ∧
    (List.replicate 10 (toReg16 5)).length = 10 := ⟨rfl, by simp, by simp⟩

/-- WindowAppendFollowsItsRule: the cursors 8 and 9, and a window within the clamp. -/
theorem witness_append : ({ State.reset.window with count := 8 } : SampleWindow).count.val ≠ 9 ∧
    ({ State.reset.window with count := 9 } : SampleWindow).count.val = 9 ∧
    (∀ i : Fin 10, SampleOk State.reset.window.win[i]) ∧ SampleOk (toReg16 8500) :=
  ⟨by decide, by decide, fun i => by
    rw [show State.reset.window.win = Vector.replicate 10 0#16 from rfl, Fin.getElem_fin, Vector.getElem_replicate]; decide,
    by decide⟩

/-- AverageIsStaleBetweenFills: a second raw byte at the cursors 3 and 9. -/
theorem witness_window_changes : ∃ s t s' t' : State,
    s.script = .input 0x00608#19 :: [] ∧ (portsOf 0x00608#19).rst = false ∧ step s = .next t ∧ t.window ≠ s.window ∧
    s.window.count.val ≠ 9 ∧
    s'.script = .input 0x00608#19 :: [] ∧ step s' = .next t' ∧ t'.window ≠ s'.window ∧ s'.window.count.val = 9 :=
  ⟨onWords [0x00608#19]
     { withEngine .adcReadingInProgress 1 2 true with window := { State.reset.window with count := 3 } }, _,
   onWords [0x00608#19]
     { withEngine .adcReadingInProgress 1 2 true with window := { State.reset.window with count := 9 } }, _,
   by decide, by decide, rfl, by decide, by decide, by decide, rfl, by decide, by decide⟩

/-- InvariantStatesNeverStop and EveryRunOfInputsKeepsTheInvariants: a state in a burst whose next word is a bus event. -/
theorem witness_never_stops : ∃ s : State, s.Inv ∧ NextWordAllowed s :=
  ⟨onWords [0x00608#19] (withEngine .writeCalibration 5 6 false), inv_of _ (by decide), by unfold NextWordAllowed; decide⟩

/-- TheTwoClustersAreIndependent: two states and words that agree on one cluster and differ on the other, each way. -/
theorem witness_clusters : ∃ s t s' t' u v : State,
    s.script = .input 0x00607#19 :: [] ∧ s'.script = .input 0x00608#19 :: [] ∧ u.script = .input 0x0060B#19 :: [] ∧
    step s = .next t ∧ step s' = .next t' ∧ step u = .next v ∧
    s.params = u.params ∧ s.nav = u.nav ∧ s.dbA = u.dbA ∧ s.dbB = u.dbB ∧ s.clock = u.clock ∧ s.session ≠ u.session ∧
    s'.params = u.params ∧ s'.session = u.session ∧ s'.cal = u.cal ∧ s'.window = u.window ∧ s'.dbA ≠ u.dbA :=
  ⟨onWords [0x00607#19] (withButtons .editHours 0 (heldFor 9) up), _,
   onWords [0x00608#19] (withEngine .adcStatus 0 0 true), _,
   onWords [0x0060B#19]
     { withEngine .adcStatus 0 0 true with nav := { mode := .editHours, idleCnt := 0 }, dbA := heldFor 9 }, _,
   by decide, by decide, by decide, rfl, rfl, rfl, by decide, by decide, by decide, by decide, by decide, by decide,
   by decide, by decide, by decide, by decide, by decide⟩

end Sys2Proof.Tests
end

section
/-! SUPPORT. The state a cycle's operations run in, and what a step does to it. -/
namespace Sys2Proof.Machine

/-- The state in which a step's operations run: the script's first word is taken and the shown command captured. -/
def sampled (s : State) : State := captureCommand (fetch s).2

@[simp] theorem fetch_snd (s : State) : (fetch s).2 = { s with script := s.script.tail } := by
  unfold fetch
  split
  · next h => rw [h, List.tail_nil, ← h]
  · next h => rw [h, List.tail_cons]

@[simp] theorem sampled_params (s : State) : (sampled s).params = s.params := by simp [sampled]
@[simp] theorem sampled_script (s : State) : (sampled s).script = s.script.tail := by simp [sampled]
@[simp] theorem sampled_nav (s : State) : (sampled s).nav = s.nav := by simp [sampled]
@[simp] theorem sampled_dbA (s : State) : (sampled s).dbA = s.dbA := by simp [sampled]
@[simp] theorem sampled_dbB (s : State) : (sampled s).dbB = s.dbB := by simp [sampled]
@[simp] theorem sampled_clock (s : State) : (sampled s).clock = s.clock := by simp [sampled]
@[simp] theorem sampled_session (s : State) : (sampled s).session = s.session := by simp [sampled]
@[simp] theorem sampled_cal (s : State) : (sampled s).cal = s.cal := by simp [sampled]
@[simp] theorem sampled_window (s : State) : (sampled s).window = s.window := by simp [sampled]
@[simp] theorem sampled_cmd (s : State) : (sampled s).cmd = s.cmd := by simp [sampled]

end Sys2Proof.Machine
end

section
/-!
SUPPORT. A cycle as the spec's one assignment (R12): the operations of the user cluster write fields the sensor engine neither
reads nor keeps, so running them first is writing them beside the engine's arm.
-/
namespace Sys2Proof.Machine

/-! ### Sequences of operations -/

theorem andThen_pure (r : Result) : andThen r .next = r := by cases r <;> rfl

theorem andThen_assoc (r : Result) (f g : State → Result) :
    andThen (andThen r f) g = andThen r fun s => andThen (f s) g := by cases r <;> rfl

theorem andThen_ite (P : Prop) [Decidable P] (r q : Result) (f : State → Result) :
    andThen (if P then r else q) f = if P then andThen r f else andThen q f :=
  apply_ite (andThen · f) P r q

theorem andThen_dite (P : Prop) [Decidable P] (r : P → Result) (q : ¬P → Result) (f : State → Result) :
    andThen (if h : P then r h else q h) f = if h : P then andThen (r h) f else andThen (q h) f :=
  apply_dite (andThen · f) P r q

@[simp] theorem runAll_singleton (i : Instr) (s : State) : runAll [i] s = exec i s := andThen_pure (exec i s)

theorem runAll_append (is js : List Instr) (s : State) :
    runAll (is ++ js) s = andThen (runAll is s) (runAll js) := by
  induction is generalizing s with
  | nil => rfl
  | cons i is ih =>
    simp only [List.cons_append, runAll_cons, andThen_assoc]
    exact congrArg (andThen (exec i s)) (funext ih)

/-! ### The meanings a cycle's operations have -/

@[simp] theorem exec_rst (s : State) : exec .rst s = .next (resetBlock s) := rfl
@[simp] theorem exec_srst (s : State) : exec .srst s = .next (engineReset s) := rfl
@[simp] theorem exec_secTick (s : State) :
    exec .secTick s = .next (noCommand { s with clock := advance s.clock }) := rfl
@[simp] theorem exec_fineTick (pa pb : Bool) (s : State) : exec (.fineTick pa pb) s = .next (fineTick pa pb s) := rfl
@[simp] theorem exec_busNack (s : State) :
    exec .busNack s = .next (if s.session.ps = .error then noCommand s else raiseBusNack s) := rfl
@[simp] theorem exec_busOk (rdata : Byte) (drdy stop : Bool) (s : State) :
    exec (.busOk rdata drdy stop) s = busStep rdata s := rfl
@[simp] theorem exec_coarseTick (s : State) : exec .coarseTick s = .next (coarseStep s) := rfl
@[simp] theorem exec_idle (s : State) : exec .idle s = .next (noCommand s) := rfl

/-! ### Engine events the protocol state ignores (R172) -/

/-- R172 (b). -/
theorem busStep_of_not_isWaiting {s : State} (h : s.session.ps.isWaiting = false) (rdata : Byte) :
    busStep rdata s = .next (noCommand s) := by
  unfold busStep
  split <;> simp_all [ProtocolState.isWaiting]

/-- R172 (a). -/
theorem coarseStep_of_not_isIdle {s : State} (h : s.session.ps.isIdle = false) : coarseStep s = noCommand s := by
  unfold coarseStep
  split <;> simp_all [ProtocolState.isIdle]

/-! ### The user cluster beside the engine -/

/-- `s` with new values in the user cluster (R61): the navigation, the two debouncers and the clock. -/
def withUserCluster (n : Navigation) (a b : ButtonObservation) (c : ClockTime) (s : State) : State :=
  { s with nav := n, dbA := a, dbB := b, clock := c }

section
variable (n : Navigation) (a b : ButtonObservation) (c : ClockTime)

@[simp] theorem withUserCluster_session (s : State) : (withUserCluster n a b c s).session = s.session := rfl

theorem withUserCluster_self (s : State) : withUserCluster s.nav s.dbA s.dbB s.clock s = s := rfl

theorem writeScratch_withUserCluster (i : Fin 7) (v : Byte) (s : State) :
    writeScratch i v (withUserCluster n a b c s) =
      andThen (writeScratch i v s) fun t => .next (withUserCluster n a b c t) := by
  unfold writeScratch
  split <;> rfl

theorem nextCalibrationByte_withUserCluster (s : State) :
    nextCalibrationByte (withUserCluster n a b c s) =
      andThen (nextCalibrationByte s) fun t => .next (withUserCluster n a b c t) := by
  unfold nextCalibrationByte
  rw [andThen_dite]
  rfl

theorem collectCalibrationByte_withUserCluster (rdata : Byte) (s : State) :
    collectCalibrationByte rdata (withUserCluster n a b c s) =
      andThen (collectCalibrationByte rdata s) fun t => .next (withUserCluster n a b c t) := by
  unfold collectCalibrationByte
  rw [withUserCluster_session, writeScratch_withUserCluster, andThen_assoc, andThen_assoc]
  congr 1
  funext t
  rw [andThen_ite, ← nextCalibrationByte_withUserCluster]
  rfl

theorem collectRawByte_withUserCluster (rdata : Byte) (s : State) :
    collectRawByte rdata (withUserCluster n a b c s) =
      andThen (collectRawByte rdata s) fun t => .next (withUserCluster n a b c t) := by
  unfold collectRawByte
  rw [withUserCluster_session, writeScratch_withUserCluster, andThen_assoc, andThen_assoc]
  congr 1
  funext t
  rw [andThen_next, andThen_next, apply_ite (withUserCluster n a b c)]
  rfl

theorem testStatus_withUserCluster (rdata : Byte) (s : State) :
    testStatus rdata (withUserCluster n a b c s) = withUserCluster n a b c (testStatus rdata s) := by
  unfold testStatus
  rw [apply_ite (withUserCluster n a b c)]
  rfl

theorem busStep_withUserCluster (rdata : Byte) (s : State) :
    busStep rdata (withUserCluster n a b c s) =
      andThen (busStep rdata s) fun t => .next (withUserCluster n a b c t) := by
  unfold busStep
  rw [withUserCluster_session]
  cases s.session.ps with
  | writeCalibration =>
    dsimp only
    rw [andThen_ite, ← collectCalibrationByte_withUserCluster]
    rfl
  | adcWaitForMeasureFinish =>
    dsimp only
    rw [andThen_ite, andThen_ite, andThen_next _ _, andThen_next _ _, ← testStatus_withUserCluster]
    rfl
  | adcReadingInProgress => exact collectRawByte_withUserCluster n a b c rdata s
  | adcStatusConfig | adcStatus | adcStartReading | readCalibration | configFinished | error => rfl

theorem coarseStep_withUserCluster (s : State) :
    coarseStep (withUserCluster n a b c s) = withUserCluster n a b c (coarseStep s) := by
  unfold coarseStep
  simp only [withUserCluster_session]
  split <;> rfl

/-- The engine's arm neither reads nor writes the user cluster (R61). -/
theorem sensorStep_withUserCluster (p : InputPorts) (s : State) :
    sensorStep p (withUserCluster n a b c s) =
      andThen (sensorStep p s) fun t => .next (withUserCluster n a b c t) := by
  unfold sensorStep
  simp only [withUserCluster_session, busStep_withUserCluster, coarseStep_withUserCluster]
  split_ifs <;> rfl

end

/-! ### The engine overwrites `cmd` -/

theorem busStep_noCommand (rdata : Byte) (s : State) : busStep rdata (noCommand s) = busStep rdata s := by
  have hw : ∀ i v, writeScratch i v (noCommand s) = andThen (writeScratch i v s) fun t => .next (noCommand t) := by
    intro i v
    unfold writeScratch
    split <;> rfl
  unfold busStep collectCalibrationByte collectRawByte
  simp only [noCommand_session, hw, andThen_assoc, andThen_next]
  rfl

/-- Every arm of the engine writes `cmd` (R13), so what it held does not matter. -/
theorem sensorStep_noCommand (p : InputPorts) (s : State) : sensorStep p (noCommand s) = sensorStep p s := by
  unfold sensorStep
  simp only [noCommand_session, busStep_noCommand]
  rfl

/-! ### A cycle's parts -/

/-- The user cluster's operations of a cycle, in R72's order. -/
def userOperations (p : InputPorts) : List Instr :=
  (if p.sec then [.secTick] else []) ++ (if p.fine then [.fineTick p.btnAN p.btnBN] else [])

/-- The user cluster after a cycle without RST: every field from the pre-state, the clock by R152. -/
def userStep (p : InputPorts) (s t : State) : State :=
  withUserCluster
    (if p.fine then navigate s.nav (debounce s.params.heldW s.dbA p.btnAN).2 else s.nav)
    (if p.fine then (debounce s.params.heldW s.dbA p.btnAN).1 else s.dbA)
    (if p.fine then (debounce s.params.heldW s.dbB p.btnBN).1 else s.dbB)
    (clockStep p s) t

section
variable (p : InputPorts) (s t : State)

@[simp] theorem userStep_params : (userStep p s t).params = t.params := rfl
@[simp] theorem userStep_script : (userStep p s t).script = t.script := rfl
@[simp] theorem userStep_nav : (userStep p s t).nav =
    if p.fine then navigate s.nav (debounce s.params.heldW s.dbA p.btnAN).2 else s.nav := rfl
@[simp] theorem userStep_dbA : (userStep p s t).dbA =
    if p.fine then (debounce s.params.heldW s.dbA p.btnAN).1 else s.dbA := rfl
@[simp] theorem userStep_dbB : (userStep p s t).dbB =
    if p.fine then (debounce s.params.heldW s.dbB p.btnBN).1 else s.dbB := rfl
@[simp] theorem userStep_clock : (userStep p s t).clock = clockStep p s := rfl
@[simp] theorem userStep_session : (userStep p s t).session = t.session := rfl
@[simp] theorem userStep_cal : (userStep p s t).cal = t.cal := rfl
@[simp] theorem userStep_window : (userStep p s t).window = t.window := rfl
@[simp] theorem userStep_cmd : (userStep p s t).cmd = t.cmd := rfl
@[simp] theorem userStep_bus : (userStep p s t).bus = t.bus := rfl

end

theorem wholeCycle_of_rst {p : InputPorts} (h : p.rst = true) (s : State) :
    wholeCycle p s = .next (resetBlock s) := by
  simp [wholeCycle, h]

theorem wholeCycle_of_not_rst {p : InputPorts} (h : p.rst = false) (s : State) :
    wholeCycle p s = andThen (sensorStep p s) fun t => .next (userStep p s t) := by
  simp only [wholeCycle, h]
  rfl

theorem userStep_of_quiet {p : InputPorts} (hs : p.sec = false) (hf : p.fine = false) (s : State) :
    sensorStep p s = andThen (sensorStep p s) fun t => .next (userStep p s t) := by
  have h : ∀ u, userStep p s u = withUserCluster s.nav s.dbA s.dbB s.clock u := by
    intro u
    simp [userStep, clockStep, hs, hf]
  simp only [h]
  rw [← sensorStep_withUserCluster, withUserCluster_self]

/-- SEC_TICK and FINE_TICK one after the other write the user cluster from the pre-state, and `cmd`. -/
theorem runAll_userOperations {p : InputPorts} (h : p.sec = true ∨ p.fine = true) (s : State) :
    runAll (userOperations p) s = .next (userStep p s (noCommand s)) := by
  unfold userOperations userStep clockStep
  cases hs : p.sec <;> cases hf : p.fine
  · simp_all
  all_goals rfl

theorem runAll_userOperations_of_quiet {p : InputPorts} (hs : p.sec = false) (hf : p.fine = false) (s : State) :
    runAll (userOperations p) s = .next s := by
  simp [userOperations, hs, hf]

/-- R171's order of tests, as operations, is the engine's arm: where an event stands that the engine ignores, the operation
chosen for it does nothing but `cmd` (R172). Without an event there is no operation, and `cmd` has to be NONE already. -/
theorem runAll_engineOperation {p : InputPorts} {s : State}
    (h : (p.srst = true ∨ p.busEvt = true ∨ p.coarse = true) ∨ noCommand s = s) :
    runAll (engineOperation s.session.ps p) s = sensorStep p s := by
  unfold engineOperation sensorStep
  split
  · rfl
  next hsrst =>
  split
  · next hnack => simp_all
  next hnack =>
  split
  · exact runAll_singleton _ s
  next hwait =>
  split
  · rfl
  next hcoarse =>
  split
  · next hbus =>
    have hw : s.session.ps.isWaiting = false := by simpa [hbus] using hwait
    cases hb : p.busNack
    · simp [busStep_of_not_isWaiting hw]
    · have : s.session.ps = .error := by simpa [hbus, hb] using hnack
      simp [this]
  next hbus =>
  split
  · next hc =>
    have hi : s.session.ps.isIdle = false := by simpa [hc] using hcoarse
    simp [coarseStep_of_not_isIdle hi]
  · next hc =>
    have hs : noCommand s = s := h.resolve_left (by simp_all)
    rw [runAll_nil, hs]

theorem sensorStep_of_quiet {p : InputPorts} (hr : p.srst = false) (hb : p.busEvt = false) (hc : p.coarse = false)
    (s : State) : sensorStep p s = .next (noCommand s) := by
  simp [sensorStep, hr, hb, hc]

/-- R72: without RST and with an event, a cycle's operations are the user cluster's, then the engine's. -/
theorem operations_of_event {p : InputPorts} (hr : p.rst = false)
    (h : (p.sec || p.fine || p.coarse || p.busEvt || p.srst) = true) (ps : ProtocolState) :
    operations ps p = userOperations p ++ engineOperation ps p := by
  rw [operations, if_neg (by simp [hr]), if_pos h]
  rfl

theorem operations_of_no_event {p : InputPorts} (hr : p.rst = false)
    (h : (p.sec || p.fine || p.coarse || p.busEvt || p.srst) = false) (ps : ProtocolState) :
    operations ps p = [.idle] := by
  simp [operations, hr, h]

/-- Running a cycle's operations one after another is the one assignment of R12. -/
theorem cycle_eq_wholeCycle (p : InputPorts) (s : State) : cycle p s = wholeCycle p s := by
  unfold cycle
  cases hr : p.rst with
  | true => simp [operations, wholeCycle_of_rst hr, hr]
  | false =>
    rw [wholeCycle_of_not_rst hr]
    cases he : p.sec || p.fine || p.coarse || p.busEvt || p.srst with
    | false =>
      rw [operations_of_no_event hr he, runAll_singleton]
      simp only [Bool.or_eq_false_iff] at he
      obtain ⟨⟨⟨⟨hsec, hfine⟩, hcoarse⟩, hbus⟩, hsrst⟩ := he
      rw [← userStep_of_quiet hsec hfine, sensorStep_of_quiet hsrst hbus hcoarse, exec_idle]
    | true =>
      rw [operations_of_event hr he, runAll_append]
      by_cases hu : p.sec = true ∨ p.fine = true
      · rw [runAll_userOperations hu, andThen_next]
        calc runAll (engineOperation s.session.ps p) (userStep p s (noCommand s))
            = sensorStep p (userStep p s (noCommand s)) :=
              runAll_engineOperation (s := userStep p s (noCommand s)) (.inr rfl)
          _ = andThen (sensorStep p (noCommand s)) fun t => .next (userStep p s t) :=
              sensorStep_withUserCluster _ _ _ _ p (noCommand s)
          _ = andThen (sensorStep p s) fun t => .next (userStep p s t) := by rw [sensorStep_noCommand]
      · obtain ⟨hsec, hfine⟩ : p.sec = false ∧ p.fine = false := by simpa using hu
        rw [runAll_userOperations_of_quiet hsec hfine, andThen_next, ← userStep_of_quiet hsec hfine]
        exact runAll_engineOperation (.inl (by simp_all; tauto))

/-- Settles O9: the cycle of the script's first word is the one assignment from the pre-state. -/
theorem stepIsOneAssignmentFromThePreState : Obligations.StepIsOneAssignmentFromThePreState := by
  intro s w rest h
  rw [step_input h, cycle_eq_wholeCycle]

end Sys2Proof.Machine
end

section
/-!
SUPPORT. Which operation a word that selects one is, and the step at the script's first word.
-/
namespace Sys2Proof.Machine

/-! ### The rows of a word -/

theorem mem_ite_singleton {i j : Instr} {b : Bool} : i ∈ (if b then [j] else []) ↔ b = true ∧ i = j := by
  cases b <;> simp

theorem filter_ite_singleton (f : Instr → Bool) (b : Bool) (i : Instr) :
    (if b then [i] else []).filter f = if b && f i then [i] else [] := by
  cases b <;> cases h : f i <;> simp [h]

/-- The rows of a word that are operations of R72's list, as conditions on its ports. -/
theorem operationRows_eq (w : InputWord) :
    (matchingRows w).filter (fun i => !i.isFineBranch) =
      let p := portsOf w
      (if p.rst then [Instr.rst] else [])
        ++ (if !p.rst && p.srst then [Instr.srst] else [])
        ++ (if !p.rst && p.sec then [Instr.secTick] else [])
        ++ (if !p.rst && p.fine then [Instr.fineTick p.btnAN p.btnBN] else [])
        ++ (if !p.rst && !p.srst && p.busEvt && p.busNack then [Instr.busNack] else [])
        ++ (if !p.rst && !p.srst && p.busEvt && !p.busNack then
              [Instr.busOk p.busRdata p.busDataReady p.busStop] else [])
        ++ (if !p.rst && !p.srst && p.coarse then [Instr.coarseTick] else [])
        ++ (if !p.rst && !p.srst && !p.sec && !p.fine && !p.coarse && !p.busEvt then [Instr.idle] else []) := by
  rw [matchingRows_eq]
  simp only [List.filter_append, filter_ite_singleton, Instr.isFineBranch, Bool.not_false, Bool.not_true, Bool.and_true,
    Bool.and_false, Bool.false_eq_true, if_false, List.append_nil]

/-- A branch row's word is a fine tick's, and its meaning is that fine tick (R73, assumption 4). -/
theorem fineBranch_means_fineTick {w : InputWord} {i : Instr} (hi : i ∈ matchingRows w) (hb : i.isFineBranch = true) :
    .fineTick (portsOf w).btnAN (portsOf w).btnBN ∈ matchingRows w ∧
      ∀ s : State, exec i s = exec (.fineTick (portsOf w).btnAN (portsOf w).btnBN) s := by
  rw [matchingRows_eq] at hi ⊢
  simp only [List.mem_append, mem_ite_singleton] at hi ⊢
  simp only [Bool.and_eq_true, Bool.not_eq_true'] at hi ⊢
  cases i with
  | fineAActive pb | fineAInactive pb =>
    simp only [reduceCtorEq, and_false, false_or, or_false, Instr.fineAActive.injEq, Instr.fineAInactive.injEq] at hi
    obtain ⟨⟨⟨hr, hf⟩, ha⟩, rfl⟩ := hi
    exact ⟨by simp [hr, hf], fun s => by rw [ha]; rfl⟩
  | fineBActive pa | fineBInactive pa =>
    simp only [reduceCtorEq, and_false, false_or, or_false, Instr.fineBActive.injEq, Instr.fineBInactive.injEq] at hi
    obtain ⟨⟨⟨hr, hf⟩, ha⟩, rfl⟩ := hi
    exact ⟨by simp [hr, hf], fun s => by rw [ha]; rfl⟩
  | _ => cases hb

theorem engineOperation_of_quiet {p : InputPorts} (hr : p.srst = false) (hb : p.busEvt = false) (hc : p.coarse = false)
    (ps : ProtocolState) : engineOperation ps p = [] := by
  simp [engineOperation, hr, hb, hc]

/-- A bus event alone selects its own operation in every protocol state. -/
theorem engineOperation_of_busEvt {p : InputPorts} (hr : p.srst = false) (hb : p.busEvt = true) (hc : p.coarse = false)
    (ps : ProtocolState) :
    engineOperation ps p = [if p.busNack then .busNack else .busOk p.busRdata p.busDataReady p.busStop] := by
  cases hn : p.busNack with
  | false => simp [engineOperation, hr, hb, hc, hn]
  | true =>
    by_cases hps : ps = .error
    · simp [engineOperation, hr, hb, hc, hn, hps, ProtocolState.isWaiting]
    · simp [engineOperation, hr, hb, hn, hps]

/-- A cycle whose word selects one operation of R72's list runs that operation: the word's first event bit, in the order of
the rows, leaves no room for another one. -/
theorem operations_of_single {w : InputWord} {j : Instr}
    (h : (matchingRows w).filter (fun i => !i.isFineBranch) = [j]) (ps : ProtocolState) :
    operations ps (portsOf w) = [j] := by
  rw [operationRows_eq] at h
  generalize portsOf w = p at h ⊢
  cases hr : p.rst with
  | true => simp_all [operations]
  | false =>
  cases hsrst : p.srst with
  | true => simp_all [operations, engineOperation]
  | false =>
  cases hsec : p.sec with
  | true =>
    have hbus : p.busEvt = false := by cases hn : p.busNack <;> simp_all
    simp_all [operations, engineOperation_of_quiet]
  | false =>
  cases hfine : p.fine with
  | true =>
    have hbus : p.busEvt = false := by cases hn : p.busNack <;> simp_all
    simp_all [operations, engineOperation_of_quiet]
  | false =>
  cases hbus : p.busEvt with
  | true =>
    obtain ⟨hj, hcoarse⟩ : j = (if p.busNack then .busNack else .busOk p.busRdata p.busDataReady p.busStop) ∧
        p.coarse = false := by
      cases hn : p.busNack <;> simp_all
    simp [operations, hr, hsec, hfine, hbus, hj, engineOperation_of_busEvt hsrst hbus hcoarse]
  | false =>
  cases hcoarse : p.coarse with
  | true => simp_all [operations, engineOperation]
  | false => simp_all [operations]

/-! ### A table word's operation -/

/-- Every row's match value matches the row (R73). -/
theorem inputRow_matches_value {r : InputRow} (hr : r ∈ inputRows) : r.matchesWord r.value = true := by
  have h : inputRows.all (fun r => r.matchesWord r.value) = true := by decide
  exact List.all_eq_true.mp h r hr

/-- A word that is one operation's runs that operation, under whichever of its names the table bits give it. -/
theorem cycle_of_decodeInput {nbits : Nat} {w : InputWord} {i : Instr} (h : decodeInput nbits w = .ok i) (s : State) :
    cycle (portsOf w) s = exec i s := by
  unfold decodeInput at h
  split at h
  next j hj =>
    have hrun : cycle (portsOf w) s = exec j s := by
      rw [cycle, operations_of_single hj, runAll_singleton]
    have hname : ∀ k ∈ matchingRows w, k.isFineBranch = false → k = j := by
      intro k hk hb
      have : k ∈ (matchingRows w).filter (fun i => !i.isFineBranch) := List.mem_filter.mpr ⟨hk, by simp [hb]⟩
      simpa [hj] using this
    split at h
    next r hfind =>
      obtain rfl : r.read (portsOf w) = i := by simpa using h
      have hvalue : r.value = w := by
        have := List.find?_some hfind
        simp only [Bool.and_eq_true, beq_iff_eq] at this
        exact this.2
      have hrow : r ∈ inputRows := List.mem_of_find?_eq_some hfind
      have hmem : r.read (portsOf w) ∈ matchingRows w :=
        List.mem_map_of_mem (List.mem_filter.mpr ⟨hrow, hvalue ▸ inputRow_matches_value hrow⟩)
      rw [hrun]
      cases hb : (r.read (portsOf w)).isFineBranch with
      | false => rw [hname _ hmem hb]
      | true =>
        obtain ⟨hfine, hsame⟩ := fineBranch_means_fineTick hmem hb
        rw [hsame, hname _ hfine rfl]
    next =>
      obtain rfl : j = i := by simpa using h
      exact hrun
  next => cases h

/-- The port word of a table word that decodes to `i` runs `i`. -/
theorem runWord_tablePortWord {nbits w : Nat} {i : Instr} (h : decodeTableWord nbits w = some i) (s : State) :
    runWord (tablePortWord nbits w) s = exec i (captureCommand s) := by
  have hok : decodeNumber nbits w = .ok i := by
    unfold decodeTableWord at h
    split at h <;> simp_all
  unfold decodeNumber asCommandWord asInputWord at hok
  unfold tablePortWord
  split at hok
  · next hwide =>
    rw [if_pos hwide]
    split_ifs at hok
    simp only [Except.ok.injEq] at hok
    rw [runWord, hok]
  · next hnarrow =>
    rw [if_neg hnarrow]
    split_ifs at hok
    exact cycle_of_decodeInput hok _

/-- Settles O7: the word put on the ports is the next one fetched, and it runs the operation it decodes to. -/
theorem stepRunsDecodedInstruction : Obligations.StepRunsDecodedInstruction := by
  intro s nbits w i h
  exact runWord_tablePortWord h s

/-! ### The script's three forms -/

/-- R87: an exhausted script is IDLE cycles. -/
theorem step_nil {s : State} (h : s.script = []) : step s = exec .idle (captureCommand s) := by
  have hquiet : portsOf (inputWordOf quietPorts) = quietPorts := by decide
  simp only [step, fetch, h, runWord, hquiet]
  exact runAll_singleton .idle (captureCommand s)

/-- Settles O8: the three forms a script has. -/
theorem stepTakesTheScriptsFirstWord : Obligations.StepTakesTheScriptsFirstWord := by
  intro s
  refine ⟨fun w rest h => ?_, fun w rest h => step_command h, step_nil⟩
  rw [step_input h, cycle, captureCommand_session]

/-- Settles O35: IDLE's meaning is the write of NONE. -/
theorem idleClearsOnlyTheCommand : Obligations.IdleClearsOnlyTheCommand := fun s => exec_idle s

end Sys2Proof.Machine
end

section
/-!
SUPPORT. What a step can do, said once: the moves of the sensor engine (R171 to R185), and the two kinds of step.
-/
namespace Sys2Proof.Machine

/-! ### The engine's moves -/

/-- `s` with one received byte in the scratch cell `byteIndex` names (R176, R185). -/
def storeByte (rdata : Byte) (s : State) (hi : s.session.byteIndex.val < 6) : State :=
  { s with session := { s.session with scratch := s.session.scratch.set s.session.byteIndex.val rdata hi } }

/-- What a completed bus command can do, one constructor per rule (R175 to R185, R172 (b)). -/
inductive BusMove (rdata : Byte) (s : State) : State → Prop
  | startBurst (hps : s.session.ps = .writeCalibration) (hb : s.session.burstCnt.val = 0) :
      BusMove rdata s (startCalibrationBurst s)
  | calibrationByte (hps : s.session.ps = .writeCalibration) (hb : s.session.burstCnt.val ≠ 0)
      (hi : s.session.byteIndex.val < 5) (hc : s.session.burstCnt.val < 6) :
      BusMove rdata s
        (issue (if s.session.byteIndex.val + 1 = 5 then .recvFinish else .recvCont) 0#8
          (setSession .writeCalibration ⟨s.session.byteIndex.val + 1, by omega⟩ ⟨s.session.burstCnt.val + 1, by omega⟩
            (storeByte rdata s (by omega))))
  | lastCalibrationByte (hps : s.session.ps = .writeCalibration) (hb : s.session.burstCnt.val ≠ 0)
      (hi : s.session.byteIndex.val = 5) : BusMove rdata s (calibrationDone (storeByte rdata s (by omega)))
  | controlValue (hps : s.session.ps = .adcStatusConfig) : BusMove rdata s (sendControlValue s)
  | statusPointer (hps : s.session.ps = .adcStatus) : BusMove rdata s (pointAtStatus s)
  | statusRead (hps : s.session.ps = .adcWaitForMeasureFinish) (hb : s.session.burstCnt.val = 0) :
      BusMove rdata s (readStatus s)
  | statusTest (hps : s.session.ps = .adcWaitForMeasureFinish) (hb : s.session.burstCnt.val = 1) :
      BusMove rdata s (testStatus rdata s)
  | rawBurst (hps : s.session.ps = .adcStartReading) : BusMove rdata s (startRawBurst s)
  | firstRawByte (hps : s.session.ps = .adcReadingInProgress) (hi : s.session.byteIndex.val = 0) :
      BusMove rdata s (nextRawByte (storeByte rdata s (by omega)))
  | lastRawByte (hps : s.session.ps = .adcReadingInProgress) (h0 : s.session.byteIndex.val ≠ 0)
      (hi : s.session.byteIndex.val < 6) : BusMove rdata s (finishAcquisition (storeByte rdata s hi))
  | ignored (hps : s.session.ps.isWaiting = false) : BusMove rdata s (noCommand s)

theorem busMove_of_collectCalibrationByte {rdata : Byte} {s t : State} (hps : s.session.ps = .writeCalibration)
    (hb : s.session.burstCnt.val ≠ 0) (h : collectCalibrationByte rdata s = .next t) : BusMove rdata s t := by
  obtain ⟨hi, ⟨h5, rfl⟩ | ⟨h5, hnext⟩⟩ := collectCalibrationByte_eq_next h
  · exact .lastCalibrationByte hps hb h5
  · unfold nextCalibrationByte at hnext
    split at hnext
    · next hlt =>
      cases hnext
      exact .calibrationByte hps hb (by omega) (by have := hlt.2; dsimp only at this; omega)
    · cases hnext

theorem busMove_of_collectRawByte {rdata : Byte} {s t : State} (hps : s.session.ps = .adcReadingInProgress)
    (h : collectRawByte rdata s = .next t) : BusMove rdata s t := by
  obtain ⟨hi, rfl⟩ := collectRawByte_eq_next h
  split
  · next h0 => exact .firstRawByte hps h0
  · next h0 => exact .lastRawByte hps h0 hi

/-- A completed bus command that answers next makes one of the moves. -/
theorem busStep_move {rdata : Byte} {s t : State} (h : busStep rdata s = .next t) : BusMove rdata s t := by
  unfold busStep at h
  split at h
  case h_1 hps =>
    split at h
    · next hb => cases h; exact .startBurst hps hb
    · next hb => exact busMove_of_collectCalibrationByte hps hb h
  case h_2 hps => cases h; exact .controlValue hps
  case h_3 hps => cases h; exact .statusPointer hps
  case h_4 hps =>
    split at h
    · next hb => cases h; exact .statusRead hps hb
    · split at h
      · next hb => cases h; exact .statusTest hps hb
      · cases h
  case h_5 hps => cases h; exact .rawBurst hps
  case h_6 hps => exact busMove_of_collectRawByte hps h
  all_goals next hps => cases h; exact .ignored (by rw [hps]; rfl)

/-- What the engine can do in a cycle without RST, one constructor per arm of SensorStep (R171, R174, R179). -/
inductive EngineMove (p : InputPorts) (s : State) : State → Prop
  | reset (hsrst : p.srst = true) : EngineMove p s (engineReset s)
  | nack (hsrst : p.srst = false) (hbus : p.busEvt = true) (hnack : p.busNack = true) (hps : s.session.ps ≠ .error) :
      EngineMove p s (raiseBusNack s)
  | bus {t : State} (hsrst : p.srst = false) (hbus : p.busEvt = true) (hnack : p.busNack = false)
      (hps : s.session.ps.isWaiting = true) (hmove : BusMove p.busRdata s t) : EngineMove p s t
  | calibrate (hsrst : p.srst = false) (hcoarse : p.coarse = true) (hps : s.session.ps = .readCalibration) :
      EngineMove p s (startCalibration s)
  | acquire (hsrst : p.srst = false) (hcoarse : p.coarse = true) (hps : s.session.ps = .configFinished) :
      EngineMove p s (startAcquisition s)
  | quiet (hsrst : p.srst = false) : EngineMove p s (noCommand s)

theorem engineMove_of_coarseStep {p : InputPorts} {s : State} (hsrst : p.srst = false) (hcoarse : p.coarse = true) :
    EngineMove p s (coarseStep s) := by
  unfold coarseStep
  split
  case h_1 hps => exact .calibrate hsrst hcoarse hps
  case h_2 hps => exact .acquire hsrst hcoarse hps
  all_goals exact .quiet hsrst

/-- The engine's arm, where it answers next, is one of its moves. -/
theorem sensorStep_move {p : InputPorts} {s t : State} (h : sensorStep p s = .next t) : EngineMove p s t := by
  unfold sensorStep at h
  split at h
  · next hsrst => cases h; exact .reset hsrst
  next hsrst =>
  rw [Bool.not_eq_true] at hsrst
  split at h
  · next hn =>
    simp only [Bool.and_eq_true, bne_iff_ne, ne_eq] at hn
    obtain ⟨⟨hbus, hnack⟩, hps⟩ := hn
    cases h
    exact .nack hsrst hbus hnack hps
  next hn =>
  split at h
  · next hw =>
    obtain ⟨hbus, hps⟩ : p.busEvt = true ∧ s.session.ps.isWaiting = true := by simpa using hw
    have hne : s.session.ps ≠ .error := by
      intro he
      rw [he] at hps
      cases hps
    have hnack : p.busNack = false := by simpa [hbus, hne] using hn
    exact .bus hsrst hbus hnack hps (busStep_move h)
  split at h
  · next hc =>
    obtain ⟨hcoarse, -⟩ : p.coarse = true ∧ s.session.ps.isIdle = true := by simpa using hc
    cases h
    exact engineMove_of_coarseStep hsrst hcoarse
  · cases h
    exact .quiet hsrst

/-! ### The two kinds of step -/

theorem step_of_fetch_input {s : State} {w : InputWord} (h : (fetch s).1 = .input w) :
    step s = wholeCycle (portsOf w) (sampled s) := by
  rw [step, h, ← cycle_eq_wholeCycle]
  rfl

theorem step_of_fetch_command {s : State} {w : CommandWord} (h : (fetch s).1 = .command w) :
    step s = exec (decodeCommand w) (sampled s) := by
  rw [step, h]
  rfl

theorem fetch_fst_of_cons {s : State} {w : PortWord} {rest : List PortWord} (h : s.script = w :: rest) :
    (fetch s).1 = w := by
  simp [fetch, h]

/-- R76: a command row tells the bus collaborator its operations and gives the block an IDLE cycle. -/
theorem exec_commandInstr {k : CommandKind} (hk : k ≠ .sendCont) (a : BusAddr) (d : Byte) (s : State) :
    exec (commandInstr k a d) s = .next (noCommand (receiveCommand k a d s)) := by
  cases k with
  | sendCont => exact absurd rfl hk
  | _ => rfl

/-- A command word's cycle that answers next is of a kind that is not reserved, and changes the bus record and `cmd`. -/
theorem exec_decodeCommand_eq_next {w : CommandWord} {s t : State} (h : exec (decodeCommand w) s = .next t) :
    commandKindOf (kindField w) ≠ .sendCont ∧
      t = noCommand (receiveCommand (commandKindOf (kindField w)) (addrField w) (dataField w) s) := by
  unfold decodeCommand at h
  by_cases hk : commandKindOf (kindField w) = .sendCont
  · rw [hk] at h
    cases h
  · rw [exec_commandInstr hk] at h
    cases h
    exact ⟨hk, rfl⟩

/-- A cycle's next state is RST's, or one engine move beside the user cluster's own step. -/
theorem wholeCycle_eq_next {p : InputPorts} {s t : State} (h : wholeCycle p s = .next t) :
    (p.rst = true ∧ t = resetBlock s) ∨ (p.rst = false ∧ ∃ u, EngineMove p s u ∧ t = userStep p s u) := by
  cases hr : p.rst with
  | true =>
    rw [wholeCycle_of_rst hr] at h
    cases h
    exact .inl ⟨rfl, rfl⟩
  | false =>
    rw [wholeCycle_of_not_rst hr] at h
    obtain ⟨u, hu, ht⟩ := andThen_eq_next h
    cases ht
    exact .inr ⟨rfl, u, sensorStep_move hu, rfl⟩

/-- Every step that answers next is a cycle of an input word, or a command word's cycle. -/
theorem step_eq_next {s t : State} (h : step s = .next t) :
    (∃ w, (fetch s).1 = .input w ∧ wholeCycle (portsOf w) (sampled s) = .next t) ∨
      (∃ k a d, t = noCommand (receiveCommand k a d (sampled s))) := by
  cases hf : (fetch s).1 with
  | input w => exact .inl ⟨w, rfl, step_of_fetch_input hf ▸ h⟩
  | command w =>
    rw [step_of_fetch_command hf] at h
    obtain ⟨-, ht⟩ := exec_decodeCommand_eq_next h
    exact .inr ⟨_, _, _, ht⟩

/-! ### What no move changes -/

theorem busMove_frame {rdata : Byte} {s t : State} (h : BusMove rdata s t) :
    t.params = s.params ∧ t.script = s.script := by
  cases h with
  | statusTest => unfold testStatus; split <;> exact ⟨rfl, rfl⟩
  | _ => exact ⟨rfl, rfl⟩

theorem engineMove_frame {p : InputPorts} {s t : State} (h : EngineMove p s t) :
    t.params = s.params ∧ t.script = s.script := by
  cases h with
  | bus _ _ _ _ hmove => exact busMove_frame hmove
  | _ => exact ⟨rfl, rfl⟩

theorem step_params {s t : State} (h : step s = .next t) : t.params = s.params := by
  rcases step_eq_next h with ⟨w, -, hw⟩ | ⟨k, a, d, rfl⟩
  · rcases wholeCycle_eq_next hw with ⟨-, rfl⟩ | ⟨-, u, hu, rfl⟩
    · simp
    · simp [(engineMove_frame hu).1]
  · simp

theorem step_script {s t : State} (h : step s = .next t) : t.script = s.script.tail := by
  rcases step_eq_next h with ⟨w, -, hw⟩ | ⟨k, a, d, rfl⟩
  · rcases wholeCycle_eq_next hw with ⟨-, rfl⟩ | ⟨-, u, hu, rfl⟩
    · simp
    · simp [(engineMove_frame hu).2]
  · simp

/-- Settles O11: no kind of step changes a parameter, and the sampling takes one word. -/
theorem stepsConsumeOneWordAndKeepParameters : Obligations.StepsConsumeOneWordAndKeepParameters :=
  fun _ _ h => ⟨step_script h, step_params h⟩

/-! ### Who issues a command -/

/-- A bus completion that issues a command leaves the engine waiting for the answer. -/
theorem busMove_isWaiting_of_valid {rdata : Byte} {s t : State} (h : BusMove rdata s t) (hv : t.cmd.valid = true) :
    t.session.ps.isWaiting = true := by
  cases h with
  | statusTest => unfold testStatus; split <;> rfl
  | lastCalibrationByte | lastRawByte | ignored => cases hv
  | _ => rfl

/-- Settles O45: of the engine's moves only a completion in WAITING and the two coarse starts issue a command. -/
theorem commandsAreIssuedOnlyByEngineEvents : Obligations.CommandsAreIssuedOnlyByEngineEvents := by
  intro s t w rest hs hstep hv
  rw [step_of_fetch_input (fetch_fst_of_cons hs)] at hstep
  rcases wholeCycle_eq_next hstep with ⟨-, rfl⟩ | ⟨hr, u, hu, rfl⟩
  · cases hv
  · cases hu with
    | reset | nack | quiet => cases hv
    | bus hsrst hbus hnack hps hmove =>
      exact ⟨hr, hsrst, busMove_isWaiting_of_valid (t := u) hmove hv, .inl ⟨hbus, hnack, by simpa using hps⟩⟩
    | calibrate hsrst hcoarse hps | acquire hsrst hcoarse hps =>
      rw [sampled_session] at hps
      exact ⟨hr, hsrst, rfl, .inr ⟨hcoarse, by rw [hps]; rfl⟩⟩

end Sys2Proof.Machine
end

section
/-!
SUPPORT. The temperature registers: what the 16-bit registers read back, and that samples and mean stay within the clamp.
-/
namespace Sys2Proof.Machine

/-- A register holds a mathematical integer of its range without wrapping (R10, R82). -/
theorem sext16_toReg16 {v : Int} (hlo : -2 ^ 15 ≤ v) (hhi : v < 2 ^ 15) : sext16 (toReg16 v) = v :=
  BitVec.toInt_ofInt_eq_self (by decide) hlo hhi

/-- R210: a compensated temperature is within the clamp. -/
theorem compensate_in_range (raw t1 t2 t3 trim : Int) :
    Config.tempMin ≤ compensate raw t1 t2 t3 trim ∧ compensate raw t1 t2 t3 trim ≤ Config.tempMax := by
  unfold compensate clamp Config.tempMin Config.tempMax
  split_ifs <;> omega

/-- The sample register reads back the compensated temperature. -/
theorem sext16_compensatedSample (p : Params) (c : Calibration) (raw : RawCode) :
    sext16 (compensatedSample p c raw) =
      compensate raw.toNat (zext16 c.t1) (sext16 c.t2) (sext16 c.t3) (sext16 p.trimCenti) := by
  obtain ⟨hlo, hhi⟩ := compensate_in_range raw.toNat (zext16 c.t1) (sext16 c.t2) (sext16 c.t3) (sext16 p.trimCenti)
  unfold Config.tempMin at hlo
  unfold Config.tempMax at hhi
  exact sext16_toReg16 (by omega) (by omega)

theorem sampleOk_compensatedSample (p : Params) (c : Calibration) (raw : RawCode) :
    SampleOk (compensatedSample p c raw) := by
  unfold SampleOk
  rw [sext16_compensatedSample]
  exact compensate_in_range _ _ _ _ _

/-- Ten samples within the clamp have a sum within ten times the clamp. -/
theorem windowSum_in_range {w : Vector Reg16 10} (h : ∀ i : Fin 10, SampleOk w[i]) :
    10 * Config.tempMin ≤ windowSum w ∧ windowSum w ≤ 10 * Config.tempMax := by
  have hmem : ∀ x ∈ w.toList.map sext16, Config.tempMin ≤ x ∧ x ≤ Config.tempMax := by
    intro x hx
    obtain ⟨r, hr, rfl⟩ := List.mem_map.mp hx
    obtain ⟨i, hi, rfl⟩ := Vector.mem_iff_getElem.mp (Vector.mem_toList_iff.mp hr)
    exact h ⟨i, hi⟩
  have hlo := List.card_nsmul_le_sum (w.toList.map sext16) Config.tempMin (fun x hx => (hmem x hx).1)
  have hhi := List.sum_le_card_nsmul (w.toList.map sext16) Config.tempMax (fun x hx => (hmem x hx).2)
  simpa [windowSum] using And.intro hlo hhi

/-- A quotient by ten, truncated toward zero, keeps the bounds of what is divided. -/
theorem tdiv_in_range {v lo hi : Int} (hlo : 10 * lo ≤ v) (hhi : v ≤ 10 * hi) : lo ≤ v.tdiv 10 ∧ v.tdiv 10 ≤ hi := by
  rw [Int.tdiv_eq_ediv, show Int.sign 10 = 1 from rfl]
  split_ifs <;> constructor <;> omega

/-- The average register reads back the truncated mean of samples within the clamp. -/
theorem sext16_meanOf {w : Vector Reg16 10} (h : ∀ i : Fin 10, SampleOk w[i]) :
    sext16 (meanOf w) = (windowSum w).tdiv 10 := by
  obtain ⟨hlo, hhi⟩ := windowSum_in_range h
  obtain ⟨hlo, hhi⟩ := tdiv_in_range hlo hhi
  unfold Config.tempMin at hlo
  unfold Config.tempMax at hhi
  exact sext16_toReg16 (v := (windowSum w).tdiv 10) (by omega) (by omega)

theorem sampleOk_meanOf {w : Vector Reg16 10} (h : ∀ i : Fin 10, SampleOk w[i]) : SampleOk (meanOf w) := by
  obtain ⟨hlo, hhi⟩ := windowSum_in_range h
  unfold SampleOk
  rw [sext16_meanOf h]
  exact tdiv_in_range hlo hhi

/-- Settles O52: both values lie within the clamp, and the clamp within a signed 16-bit register. -/
theorem temperatureRegistersHoldTheirValues : Obligations.TemperatureRegistersHoldTheirValues :=
  ⟨sext16_compensatedSample, fun _ h => ⟨sext16_meanOf h, sampleOk_meanOf h⟩⟩

end Sys2Proof.Machine
end

section
/-!
SUPPORT. Each operation keeps its own part of the invariants (R38).
-/
namespace Sys2Proof.Machine

/-! ### Buttons and navigation -/

theorem buttonOk_clear (heldW : Nat) : ButtonOk heldW ButtonObservation.clear := by
  simp [ButtonOk, ButtonObservation.clear]

/-- A record without a press in progress is clear. -/
theorem ButtonOk.eq_clear {heldW : Nat} {db : ButtonObservation} (h : ButtonOk heldW db) (hp : db.pressed = false) :
    db = ButtonObservation.clear := by
  obtain ⟨hreleased, hpressed, -⟩ := h
  have hheld : db.held = 0 := by
    rw [hp] at hpressed
    simpa using hpressed
  cases db
  simp_all [ButtonObservation.clear]

/-- R38 (c) across Debounce: an active sample counts and saturates, an inactive one ends with a clear record. -/
theorem debounce_keeps_buttonOk {heldW : Nat} (hw : 1 ≤ heldW) {db : ButtonObservation} (h : ButtonOk heldW db)
    (pinN : Bool) : ButtonOk heldW (debounce heldW db pinN).1 := by
  have ⟨hreleased, hpressed, _⟩ := h
  cases pinN with
  | false =>
    rw [debounce_active hreleased]
    have hmax : 2 ≤ 2 ^ heldW := Nat.le_self_pow (by omega) 2
    refine ⟨rfl, ?_, ?_⟩
    · simp only [satInc, true_iff]
      omega
    · exact min_le_right _ _
  | true =>
    cases hp : db.pressed with
    | true =>
      rw [debounce_release hp (hpressed.mp hp)]
      exact buttonOk_clear heldW
    | false =>
      rw [h.eq_clear hp, debounce_clear]
      exact buttonOk_clear heldW

theorem idleTimeout_keeps_navigationOk {n : Navigation} (h : n.mode = .showClock) : NavigationOk (idleTimeout n) := by
  unfold idleTimeout
  split
  · exact fun hm => absurd h hm
  · exact fun _ => rfl

/-- R38 (b): outside ShowClock nothing counts, and the timeout leaves it with a zero count. -/
theorem navigate_keeps_navigationOk {n : Navigation} (h : NavigationOk n) (d : Option Nat) :
    NavigationOk (navigate n d) := by
  unfold navigate
  split
  · next hm => exact idleTimeout_keeps_navigationOk hm
  · next hm =>
    cases d with
    | some d => exact fun _ => h hm
    | none => exact h

/-! ### The window -/

theorem set_keeps_sampleOk {w : Vector Reg16 10} (h : ∀ i : Fin 10, SampleOk w[i]) {t : Reg16} (ht : SampleOk t)
    (j : Fin 10) : ∀ i : Fin 10, SampleOk (w.set j.val t j.isLt)[i] := by
  intro i
  simp only [Fin.getElem_fin, Vector.getElem_set]
  split
  · exact ht
  · exact h i

/-- R38 (i) across WindowAppend. -/
theorem windowAppend_keeps_windowOk {w : SampleWindow} (h : WindowOk w) {t : Reg16} (ht : SampleOk t) :
    WindowOk (windowAppend t w) := by
  have hset := set_keeps_sampleOk h.1 ht w.count
  unfold windowAppend
  dsimp only
  split
  · exact ⟨hset, h.2⟩
  · exact ⟨hset, sampleOk_meanOf hset⟩

/-! ### The engine -/

/-- Every protocol state's clause bounds `byteIndex` by the last scratch cell. -/
theorem byteIndex_le_of_sessionOk {ss : SensorSession} (h : SessionOk ss = true) : ss.byteIndex.val ≤ 5 := by
  unfold SessionOk at h
  split at h <;> simp only [Bool.and_eq_true, decide_eq_true_eq] at h <;> omega

/-- R38 (f) and (g) across a bus completion. -/
theorem busMove_keeps_sessionOk {rdata : Byte} {s t : State} (h : SessionOk s.session = true) (hm : BusMove rdata s t) :
    SessionOk t.session = true := by
  cases hm with
  | statusTest hps hb =>
    unfold testStatus pointAtStatus
    split <;> simp_all [SessionOk]
  | calibrationByte hps hb hi hc =>
    simp_all [SessionOk]
  | startBurst hps hb | controlValue hps | statusPointer hps | statusRead hps hb =>
    simp_all [SessionOk, startCalibrationBurst, sendControlValue, pointAtStatus, readStatus]
  | ignored => exact h
  | lastCalibrationByte | rawBurst | firstRawByte | lastRawByte => rfl

theorem engineMove_keeps_sessionOk {p : InputPorts} {s t : State} (h : SessionOk s.session = true)
    (hm : EngineMove p s t) : SessionOk t.session = true := by
  cases hm with
  | reset => cases hc : s.cal.calValid <;> simp [SessionOk, hc]
  | nack hsrst hbus hnack hps =>
    rw [raiseBusNack_session]
    simpa [SessionOk] using byteIndex_le_of_sessionOk h
  | bus _ _ _ _ hmove => exact busMove_keeps_sessionOk h hmove
  | calibrate | acquire => rfl
  | quiet => exact h

/-- R38 (h) and R178 across a bus completion. -/
theorem busMove_keeps_calibrationOk {rdata : Byte} {s t : State} (h : CalibrationOk s.session s.cal)
    (hm : BusMove rdata s t) : CalibrationOk t.session t.cal := by
  obtain ⟨hafter, hduring⟩ := h
  cases hm with
  | startBurst hps | calibrationByte hps =>
    rw [hps] at hduring
    exact ⟨nofun, fun _ => hduring rfl⟩
  | lastCalibrationByte => exact ⟨fun _ => rfl, nofun⟩
  | statusTest hps hb =>
    rw [hps] at hafter
    unfold testStatus
    split <;> exact ⟨fun _ => hafter rfl, nofun⟩
  | controlValue hps | statusPointer hps | statusRead hps | rawBurst hps | firstRawByte hps | lastRawByte hps =>
    rw [hps] at hafter
    exact ⟨fun _ => hafter rfl, nofun⟩
  | ignored => exact ⟨hafter, hduring⟩

theorem engineMove_keeps_calibrationOk {p : InputPorts} {s t : State} (h : CalibrationOk s.session s.cal)
    (hm : EngineMove p s t) : CalibrationOk t.session t.cal := by
  cases hm with
  | reset =>
    cases hc : s.cal.calValid <;> simp [CalibrationOk, hc, ProtocolState.isAfterCalibration, ProtocolState.isCalibrating]
  | nack => exact ⟨nofun, nofun⟩
  | bus _ _ _ _ hmove => exact busMove_keeps_calibrationOk h hmove
  | calibrate _ _ hps => exact ⟨nofun, fun _ => h.2 (by rw [hps]; rfl)⟩
  | acquire _ _ hps => exact ⟨fun _ => h.1 (by rw [hps]; rfl), nofun⟩
  | quiet => exact h

/-- R38 (i) across the engine: only the last raw byte appends a sample. -/
theorem busMove_keeps_windowOk {rdata : Byte} {s t : State} (h : WindowOk s.window) (hm : BusMove rdata s t) :
    WindowOk t.window := by
  cases hm with
  | lastRawByte => exact windowAppend_keeps_windowOk h (sampleOk_compensatedSample _ _ _)
  | statusTest => unfold testStatus; split <;> exact h
  | _ => exact h

theorem engineMove_keeps_windowOk {p : InputPorts} {s t : State} (h : WindowOk s.window) (hm : EngineMove p s t) :
    WindowOk t.window := by
  cases hm with
  | bus _ _ _ _ hmove => exact busMove_keeps_windowOk h hmove
  | _ => exact h

/-! ### The whole state -/

theorem reset_inv : State.reset.Inv where
  params := by decide
  navigation := fun _ => rfl
  buttonA := buttonOk_clear _
  buttonB := buttonOk_clear _
  session := rfl
  calibration := by decide
  window := by decide

/-- RST meets the invariants for all parameters in range. -/
theorem resetBlock_inv {s : State} (h : s.params.wf) : (resetBlock s).Inv where
  params := h
  navigation := reset_inv.navigation
  buttonA := buttonOk_clear _
  buttonB := buttonOk_clear _
  session := reset_inv.session
  calibration := reset_inv.calibration
  window := reset_inv.window

/-- Settles O13: RST writes the reset state's records, whose invariants hold for any parameters in range. -/
theorem resetMeetsTheInvariants : Obligations.ResetMeetsTheInvariants := by
  refine ⟨reset_inv, by decide, fun s t hwf h => ?_⟩
  obtain rfl : resetBlock s = t := by simpa using h
  exact ⟨resetBlock_inv hwf, by rw [resetBlock_session]; decide⟩

theorem sampled_inv {s : State} (h : s.Inv) : (sampled s).Inv where
  params := by simpa using h.params
  navigation := by simpa using h.navigation
  buttonA := by simpa using h.buttonA
  buttonB := by simpa using h.buttonB
  session := by simpa using h.session
  calibration := by simpa using h.calibration
  window := by simpa using h.window

/-- The user cluster's step and one engine move, side by side, keep the invariants. -/
theorem userStep_inv {p : InputPorts} {s u : State} (h : s.Inv) (hm : EngineMove p s u) : (userStep p s u).Inv := by
  have hparams : u.params = s.params := (engineMove_frame hm).1
  have hw : 1 ≤ s.params.heldW := le_trans (by decide) h.params.1
  refine
    { params := ?_, navigation := ?_, buttonA := ?_, buttonB := ?_
      session := engineMove_keeps_sessionOk (t := u) h.session hm
      calibration := engineMove_keeps_calibrationOk (t := u) h.calibration hm
      window := engineMove_keeps_windowOk (t := u) h.window hm }
  · rw [userStep_params, hparams]
    exact h.params
  · rw [userStep_nav]
    split
    · exact navigate_keeps_navigationOk h.navigation _
    · exact h.navigation
  · rw [userStep_params, hparams, userStep_dbA]
    split
    · exact debounce_keeps_buttonOk hw h.buttonA _
    · exact h.buttonA
  · rw [userStep_params, hparams, userStep_dbB]
    split
    · exact debounce_keeps_buttonOk hw h.buttonB _
    · exact h.buttonB

/-- Every step keeps the invariants, whatever word it runs. -/
theorem step_inv {s t : State} (h : s.Inv) (hstep : step s = .next t) : t.Inv := by
  have hs := sampled_inv h
  rcases step_eq_next hstep with ⟨w, -, hw⟩ | ⟨k, a, d, rfl⟩
  · rcases wholeCycle_eq_next hw with ⟨-, rfl⟩ | ⟨-, u, hu, rfl⟩
    · exact resetBlock_inv hs.params
    · exact userStep_inv hs hu
  · exact ⟨hs.params, hs.navigation, hs.buttonA, hs.buttonB, hs.session, hs.calibration, hs.window⟩

/-! ### R38 (f) word for word -/

/-- Outside Error the sharper invariant gives R38 (f). -/
theorem indexOk_of_sessionOk {ss : SensorSession} (h : SessionOk ss = true) (hps : ss.ps ≠ .error) : IndexOk ss := by
  unfold SessionOk at h
  split at h <;> simp_all [IndexOk]

/-- A bus completion never leads to Error. -/
theorem busMove_ps_ne_error {rdata : Byte} {s t : State} (hps : s.session.ps.isWaiting = true) (hm : BusMove rdata s t) :
    t.session.ps ≠ .error := by
  cases hm with
  | statusTest => unfold testStatus; split <;> exact nofun
  | ignored hw => rw [hw] at hps; cases hps
  | _ => exact nofun

/-- Into Error, and while there, the rest of the session stays as it was (R241, R242). -/
theorem engineMove_session_of_error {p : InputPorts} {s t : State} (hm : EngineMove p s t)
    (ht : t.session.ps = .error) : t.session = { s.session with ps := .error } := by
  cases hm with
  | reset => cases hc : s.cal.calValid <;> simp [hc] at ht
  | nack => rfl
  | bus _ _ _ hps hmove => exact absurd ht (busMove_ps_ne_error hps hmove)
  | calibrate | acquire => cases ht
  | quiet =>
    rw [noCommand_session] at ht ⊢
    rw [← ht]

theorem step_session_of_error {s t : State} (hstep : step s = .next t) (ht : t.session.ps = .error) :
    t.session = { s.session with ps := .error } := by
  rw [← sampled_session s]
  rcases step_eq_next hstep with ⟨w, -, hw⟩ | ⟨k, a, d, rfl⟩
  · rcases wholeCycle_eq_next hw with ⟨-, rfl⟩ | ⟨-, u, hu, rfl⟩
    · cases ht
    · exact engineMove_session_of_error (t := u) hu ht
  · rw [noCommand_session, receiveCommand_session] at ht ⊢
    rw [← ht]

/-- R38 (f) is kept, or the step leads from the middle of a burst into Error. -/
theorem step_indexOk {s t : State} (h : s.Inv) (hi : IndexOk s.session) (hstep : step s = .next t) :
    IndexOk t.session ∨
      (t.session = { s.session with ps := .error } ∧ s.session.byteIndex ≠ 0 ∧
        (s.session.ps = .writeCalibration ∨ s.session.ps = .adcReadingInProgress)) := by
  by_cases ht : t.session.ps = .error
  · have hsession := step_session_of_error hstep ht
    by_cases h0 : s.session.byteIndex = 0
    · left
      rw [hsession]
      exact ⟨nofun, nofun, fun _ _ => h0⟩
    · right
      refine ⟨hsession, h0, ?_⟩
      obtain ⟨-, -, hzero⟩ := hi
      by_contra hburst
      exact h0 (hzero (fun hw => hburst (.inl hw)) (fun hr => hburst (.inr hr)))
  · exact .inl (indexOk_of_sessionOk (step_inv h hstep).session ht)

/-! ### `byteIndex` in Error -/

/-- `s` with another `byteIndex`. -/
def withByteIndex (i : Fin 7) (s : State) : State := { s with session := { s.session with byteIndex := i } }

theorem sampled_withByteIndex (i : Fin 7) (s : State) : sampled (withByteIndex i s) = withByteIndex i (sampled s) := by
  unfold sampled captureCommand
  rw [fetch_snd, fetch_snd, apply_ite (withByteIndex i)]
  rfl

theorem fetch_fst_withByteIndex (i : Fin 7) (s : State) : (fetch (withByteIndex i s)).1 = (fetch s).1 := by
  cases h : s.script with
  | nil => simp [fetch, withByteIndex, h]
  | cons w rest => rw [fetch_fst_of_cons h, fetch_fst_of_cons (s := withByteIndex i s) h]

/-- In Error the engine does nothing but on SRST (R172, R243, R246). -/
theorem sensorStep_of_error {s : State} (h : s.session.ps = .error) (p : InputPorts) :
    sensorStep p s = .next (if p.srst then engineReset s else noCommand s) := by
  unfold sensorStep
  cases p.srst <;> simp [h, ProtocolState.isWaiting, ProtocolState.isIdle]

/-- A cycle from Error gives states that differ in `byteIndex` alone as long as they stay in Error, and the same state
otherwise. -/
theorem wholeCycle_withByteIndex {s : State} (h : s.session.ps = .error) (p : InputPorts) (i : Fin 7) :
    (∃ t, wholeCycle p s = .next t ∧ t.session.ps ≠ .error ∧ wholeCycle p (withByteIndex i s) = .next t) ∨
      (∃ t, wholeCycle p s = .next t ∧ t.session.ps = .error ∧
        wholeCycle p (withByteIndex i s) = .next (withByteIndex i t)) := by
  cases hr : p.rst with
  | true =>
    rw [wholeCycle_of_rst hr, wholeCycle_of_rst hr]
    exact .inl ⟨_, rfl, nofun, rfl⟩
  | false =>
    rw [wholeCycle_of_not_rst hr, wholeCycle_of_not_rst hr, sensorStep_of_error h,
      sensorStep_of_error (s := withByteIndex i s) h]
    cases p.srst with
    | true =>
      refine .inl ⟨_, rfl, ?_, rfl⟩
      cases hc : s.cal.calValid <;> simp [hc]
    | false => exact .inr ⟨_, rfl, h, rfl⟩

/-- From two Error states that differ in `byteIndex` alone, a step gives two such states again, or leaves Error for one. -/
theorem step_withByteIndex {s t : State} (h : s.session.ps = .error) (hstep : step s = .next t) (i : Fin 7) :
    (t.session.ps ≠ .error ∧ step (withByteIndex i s) = .next t) ∨
      (t.session.ps = .error ∧ step (withByteIndex i s) = .next (withByteIndex i t)) := by
  have hs : (sampled s).session.ps = .error := by rw [sampled_session, h]
  have hf := fetch_fst_withByteIndex i s
  cases hw : (fetch s).1 with
  | input w =>
    rw [step_of_fetch_input hw] at hstep
    rw [step_of_fetch_input (hf.trans hw), sampled_withByteIndex]
    rcases wholeCycle_withByteIndex hs (portsOf w) i with ⟨u, hu, hps, hu'⟩ | ⟨u, hu, hps, hu'⟩
    · obtain rfl : u = t := by simpa [hu] using hstep
      exact .inl ⟨hps, hu'⟩
    · obtain rfl : u = t := by simpa [hu] using hstep
      exact .inr ⟨hps, hu'⟩
  | command w =>
    rw [step_of_fetch_command hw] at hstep
    obtain ⟨hk, rfl⟩ := exec_decodeCommand_eq_next hstep
    rw [step_of_fetch_command (hf.trans hw), sampled_withByteIndex]
    exact .inr ⟨hs, exec_commandInstr hk _ _ _⟩

/-- Settles O56: the invariants, R38 (f) word for word, and what `byteIndex` in Error cannot decide. -/
theorem everyStepKeepsTheInvariants : Obligations.EveryStepKeepsTheInvariants := by
  refine ⟨fun s t => step_inv, fun s t => step_indexOk, fun s t i h hstep => ?_⟩
  rcases step_withByteIndex h hstep i with ⟨hps, ht⟩ | ⟨hps, ht⟩
  · exact ⟨t, ht, rfl, fun he => absurd he hps, fun _ => rfl⟩
  · exact ⟨withByteIndex i t, ht, rfl, fun _ => rfl, fun hne => absurd hps hne⟩

end Sys2Proof.Machine
end

section
/-!
SUPPORT. Where the machine does not stop, and runs of input words: a step from a state that meets the invariants answers next,
and what every step keeps, every run keeps (R38, R244).
-/
namespace Sys2Proof.Machine

/-! ### Input words never stop the machine (R244) -/

theorem nextCalibrationByte_completes {s : State} (hi : s.session.byteIndex.val < 5)
    (hc : s.session.burstCnt.val = s.session.byteIndex.val + 1) : ∃ t, nextCalibrationByte s = .next t := by
  unfold nextCalibrationByte
  rw [dif_pos ⟨by omega, by omega⟩]
  exact ⟨_, rfl⟩

theorem collectCalibrationByte_completes {s : State} (hi : s.session.byteIndex.val ≤ 5)
    (hc : s.session.burstCnt.val = s.session.byteIndex.val + 1) (rdata : Byte) :
    ∃ t, collectCalibrationByte rdata s = .next t := by
  unfold collectCalibrationByte
  rw [writeScratch_of_lt (by omega), andThen_next]
  split
  · exact ⟨_, rfl⟩
  · next hlast =>
    have hne : s.session.byteIndex.val + 1 ≠ 6 := hlast
    exact nextCalibrationByte_completes (show s.session.byteIndex.val < 5 by omega) hc

theorem collectRawByte_completes {s : State} (hi : s.session.byteIndex.val ≤ 1) (rdata : Byte) :
    ∃ t, collectRawByte rdata s = .next t := by
  unfold collectRawByte
  rw [writeScratch_of_lt (by omega), andThen_next]
  exact ⟨_, rfl⟩

/-- The sessions a bus completion stops in are outside the invariant (R38 (f), (g)). -/
theorem busStep_completes {s : State} (h : SessionOk s.session = true) (rdata : Byte) :
    ∃ t, busStep rdata s = .next t := by
  unfold busStep
  cases hps : s.session.ps with
  | writeCalibration =>
    simp only [SessionOk, hps, Bool.and_eq_true, Bool.or_eq_true, decide_eq_true_eq] at h
    dsimp only
    split
    · exact ⟨_, rfl⟩
    · exact collectCalibrationByte_completes (by omega) (by omega) rdata
  | adcWaitForMeasureFinish =>
    simp only [SessionOk, hps, Bool.and_eq_true, decide_eq_true_eq] at h
    dsimp only
    split
    · exact ⟨_, rfl⟩
    · rw [if_pos (by omega)]
      exact ⟨_, rfl⟩
  | adcReadingInProgress =>
    simp only [SessionOk, hps, Bool.and_eq_true, decide_eq_true_eq] at h
    exact collectRawByte_completes h.1 rdata
  | adcStatusConfig | adcStatus | adcStartReading | readCalibration | configFinished | error => exact ⟨_, rfl⟩

theorem sensorStep_completes {s : State} (h : SessionOk s.session = true) (p : InputPorts) :
    ∃ t, sensorStep p s = .next t := by
  unfold sensorStep
  split
  · exact ⟨_, rfl⟩
  split
  · exact ⟨_, rfl⟩
  split
  · exact busStep_completes h p.busRdata
  split <;> exact ⟨_, rfl⟩

theorem wholeCycle_completes {s : State} (h : SessionOk s.session = true) (p : InputPorts) :
    ∃ t, wholeCycle p s = .next t := by
  cases hr : p.rst with
  | true => exact ⟨_, wholeCycle_of_rst hr s⟩
  | false =>
    obtain ⟨u, hu⟩ := sensorStep_completes h p
    rw [wholeCycle_of_not_rst hr, hu]
    exact ⟨_, rfl⟩

/-- From a state that meets the invariants every input word's step answers next. -/
theorem step_completes_of_input {s : State} {w : InputWord} (h : s.Inv) (hw : (fetch s).1 = .input w) :
    ∃ t, step s = .next t := by
  rw [step_of_fetch_input hw]
  exact wholeCycle_completes (sampled_inv h).session _

/-! ### Runs of input words -/

theorem onPorts_inv {s : State} (h : s.Inv) (ws : List InputWord) : (onPorts ws s).Inv :=
  ⟨h.params, h.navigation, h.buttonA, h.buttonB, h.session, h.calibration, h.window⟩

theorem fetch_onPorts_cons (w : InputWord) (ws : List InputWord) (s : State) :
    (fetch (onPorts (w :: ws) s)).1 = .input w := fetch_fst_of_cons rfl

theorem runWords_nil (s : State) : runWords [] s = .next (onPorts [] s) := rfl

theorem core_run_succ {M : Host.Core} {k : Nat} {s t : M.State} (h : M.step s = .next t) :
    M.run (k + 1) s = M.run k t := by
  rw [Host.Core.run, h]

/-- A run goes on with the words its first step left on the ports. -/
theorem runWords_cons {w : InputWord} {ws : List InputWord} {s t : State} (h : step (onPorts (w :: ws) s) = .next t) :
    runWords (w :: ws) s = runWords ws t := by
  have hrest : onPorts ws t = t := by
    have hscript : t.script = ws.map .input := step_script h
    rw [onPorts, ← hscript]
  have hrun : runWords (w :: ws) s = Sys2Proof.core.run ws.length t := core_run_succ (M := Sys2Proof.core) h
  rw [hrun, runWords, hrest]

/-- What does not depend on the script, and what every step of an allowed word completes and keeps, every run of allowed words
completes and keeps. -/
theorem runWords_keeps {P : State → Prop} {allowed : InputWord → Prop}
    (hports : ∀ s ws, P s → P (onPorts ws s))
    (hstep : ∀ s w, P s → allowed w → (fetch s).1 = .input w → ∃ t, step s = .next t ∧ P t)
    {s : State} {ws : List InputWord} (hs : P s) (hws : ∀ w ∈ ws, allowed w) :
    ∃ t, runWords ws s = .next t ∧ P t := by
  induction ws generalizing s with
  | nil => exact ⟨_, runWords_nil s, hports s [] hs⟩
  | cons w ws ih =>
    obtain ⟨hw, hrest⟩ := List.forall_mem_cons.mp hws
    obtain ⟨t, ht, hPt⟩ := hstep _ w (hports s (w :: ws) hs) hw (fetch_onPorts_cons w ws s)
    rw [runWords_cons ht]
    exact ih hPt hrest

/-- Settles O58: no input word stops the machine in a state that meets the invariants, and its step keeps them. -/
theorem everyRunOfInputsKeepsTheInvariants : Obligations.EveryRunOfInputsKeepsTheInvariants := by
  intro s ws hs
  refine runWords_keeps (allowed := fun _ => True) (fun _ ws h => onPorts_inv h ws) ?_ hs fun _ _ => trivial
  intro s w h _ hw
  obtain ⟨t, ht⟩ := step_completes_of_input h hw
  exact ⟨t, ht, step_inv h ht⟩

end Sys2Proof.Machine
end

section
/-!
SUPPORT. The calibration constants: only the last calibration byte writes them (R177), and no calibrated state collects one.
-/
namespace Sys2Proof.Machine

theorem busMove_cal {rdata : Byte} {s t : State} (hps : s.session.ps ≠ .writeCalibration) (hm : BusMove rdata s t) :
    t.cal = s.cal := by
  cases hm with
  | lastCalibrationByte hcal => exact absurd hcal hps
  | statusTest => unfold testStatus; split <;> rfl
  | _ => rfl

/-- R178: a completed calibration is not being read again. -/
theorem CalibrationOk.ps_ne {ss : SensorSession} {c : Calibration} (h : CalibrationOk ss c) (hv : c.calValid = true) :
    ss.ps ≠ .readCalibration ∧ ss.ps ≠ .writeCalibration := by
  obtain ⟨-, hduring⟩ := h
  rw [hv] at hduring
  constructor <;> intro hps <;> rw [hps] at hduring <;> cases hduring rfl

theorem engineMove_cal {p : InputPorts} {s t : State} (h : CalibrationOk s.session s.cal) (hv : s.cal.calValid = true)
    (hm : EngineMove p s t) : t.cal = s.cal := by
  cases hm with
  | bus _ _ _ _ hmove => exact busMove_cal (CalibrationOk.ps_ne h hv).2 hmove
  | _ => rfl

/-- A step without RST keeps a completed calibration. -/
theorem step_cal {s t : State} {w : InputWord} (h : s.Inv) (hv : s.cal.calValid = true) (hw : (fetch s).1 = .input w)
    (hr : (portsOf w).rst = false) (hstep : step s = .next t) : t.cal = s.cal := by
  rw [step_of_fetch_input hw] at hstep
  rcases wholeCycle_eq_next hstep with ⟨hrst, -⟩ | ⟨-, u, hu, rfl⟩
  · rw [hr] at hrst
    cases hrst
  · rw [userStep_cal, engineMove_cal (sampled_inv h).calibration (by rw [sampled_cal, hv]) hu, sampled_cal]

/-- The invariants together with a completed calibration of these constants. -/
def CalibratedAs (c : Calibration) (s : State) : Prop := s.Inv ∧ s.cal = c ∧ c.calValid = true

theorem step_keeps_calibratedAs {c : Calibration} {s : State} {w : InputWord} (h : CalibratedAs c s)
    (hr : (portsOf w).rst = false) (hw : (fetch s).1 = .input w) : ∃ t, step s = .next t ∧ CalibratedAs c t := by
  obtain ⟨hinv, rfl, hv⟩ := h
  obtain ⟨t, ht⟩ := step_completes_of_input hinv hw
  exact ⟨t, ht, step_inv hinv ht, step_cal hinv hv hw hr ht, hv⟩

/-- Settles O38: along the run the invariants hold with the same constants, and with `calValid` they exclude a calibration
read. -/
theorem calibrationIsImmutableUntilReset : Obligations.CalibrationIsImmutableUntilReset := by
  intro s ws hs hv hws
  obtain ⟨t, ht, hinv, hcal, -⟩ := runWords_keeps (P := CalibratedAs s.cal) (allowed := fun w => (portsOf w).rst = false)
    (fun _ ws h => ⟨onPorts_inv h.1 ws, h.2⟩) (fun _ _ => step_keeps_calibratedAs) ⟨hs, rfl, hv⟩ hws
  exact ⟨t, ht, hcal, CalibrationOk.ps_ne hinv.calibration (by rw [hcal, hv])⟩

end Sys2Proof.Machine
end

section
/-!
SUPPORT. The held counts of the two buttons across Debounce (R101) and across a step.
-/
namespace Sys2Proof.Machine

/-- An active sample counts up to the saturation value, an inactive one leaves a clear record. -/
theorem debounce_held {heldW : Nat} {db : ButtonObservation} (h : ButtonOk heldW db) (pinN : Bool) :
    (debounce heldW db pinN).1.held = 0 ∨ db.held ≤ (debounce heldW db pinN).1.held := by
  have ⟨hreleased, hpressed, hmax⟩ := h
  cases pinN with
  | false =>
    rw [debounce_active hreleased]
    exact .inr (le_min (Nat.le_succ _) hmax)
  | true =>
    left
    cases hp : db.pressed with
    | true => rw [debounce_release hp (hpressed.mp hp)]; rfl
    | false => rw [h.eq_clear hp, debounce_clear]; rfl

/-- The same for a record that only a fine tick debounces. -/
theorem ite_debounce_held {heldW : Nat} {db : ButtonObservation} (h : ButtonOk heldW db) (fine pinN : Bool) :
    (if fine then (debounce heldW db pinN).1 else db).held = 0 ∨
      db.held ≤ (if fine then (debounce heldW db pinN).1 else db).held := by
  cases fine with
  | true => exact debounce_held h pinN
  | false => exact .inr le_rfl

/-- Settles O23: RST clears the records, an input cycle debounces them or leaves them, a command word leaves them. -/
theorem heldTicksNeverDecrementExceptToZero : Obligations.HeldTicksNeverDecrementExceptToZero := by
  intro s t h hstep
  have hs := sampled_inv h
  rw [← sampled_dbA s, ← sampled_dbB s]
  rcases step_eq_next hstep with ⟨w, -, hw⟩ | ⟨k, a, d, rfl⟩
  · rcases wholeCycle_eq_next hw with ⟨-, rfl⟩ | ⟨-, u, -, rfl⟩
    · exact ⟨.inl rfl, .inl rfl⟩
    · exact ⟨ite_debounce_held hs.buttonA _ _, ite_debounce_held hs.buttonB _ _⟩
  · exact ⟨.inr le_rfl, .inr le_rfl⟩

end Sys2Proof.Machine
end

section
/-!
SUPPORT. The bus collaborator's side of the command port (R76, R260).
-/
namespace Sys2Proof.Machine

/-- R76: a KIND field reads back its command kind. -/
theorem commandKindOf_bits (k : CommandKind) : commandKindOf k.bits = k := by cases k <;> rfl

/-- A shown command is captured as the row of its kind (R260, R280 (a)). -/
theorem exec_commandInstr_of_shown {s : State} {k : CommandKind} (hv : s.cmd.valid = true) (hkind : s.cmd.kind = k.bits)
    (hk : k ≠ .sendCont) :
    exec (commandInstr k s.cmd.addr s.cmd.data) s = .next (noCommand (captureCommand s)) := by
  rw [exec_commandInstr hk, captureCommand_of_valid hv, hkind, commandKindOf_bits]

/-- Settles O42: a command row is R76's operations of its kind and an IDLE cycle of the block. -/
theorem commandRowsReachTheBusCollaborator : Obligations.CommandRowsReachTheBusCollaborator := by
  refine ⟨fun addr data s => ?_, fun s => captureCommand_of_invalid, fun s k => exec_commandInstr_of_shown⟩
  have hrow (k : CommandKind) (hk : k ≠ .sendCont) := exec_commandInstr hk addr data s
  exact ⟨hrow .sendSingle nofun, hrow .sendStart nofun, hrow .sendFinish nofun, hrow .recvSingle nofun,
    hrow .recvStart nofun, hrow .recvCont nofun, hrow .recvFinish nofun⟩

end Sys2Proof.Machine
end

section
/-!
SUPPORT. The output ports (R36).
-/
namespace Sys2Proof.Machine

theorem displayRequest_eq_false_iff (m : Mode) : displayRequest m = false ↔ m = .showTemperature :=
  bne_eq_false_iff_eq

theorem sensorFault_iff (s : State) : sensorFault s = true ↔ s.session.ps = .error := beq_iff_eq

/-- A time field fits its port (R26, R36). -/
theorem toNat_ofNat_fin {n w : Nat} (h : n ≤ 2 ^ w) (i : Fin n) : (BitVec.ofNat w i.val).toNat = i.val := by
  rw [BitVec.toNat_ofNat, Nat.mod_eq_of_lt (i.isLt.trans_le h)]

/-- Settles O60: the two encodings row by row, the flags by their tests, the time within its ports' widths. -/
theorem outputsAreFunctionsOfTheState : Obligations.OutputsAreFunctionsOfTheState := by
  intro s
  have hmode : (outputs s).modeO = modeBits s.nav.mode := rfl
  have hps : (outputs s).sensorState = protocolBits s.session.ps := rfl
  refine ⟨?_, displayRequest_eq_false_iff s.nav.mode, toNat_ofNat_fin (by decide) s.clock.hh,
    toNat_ofNat_fin (by decide) s.clock.mm, toNat_ofNat_fin (by decide) s.clock.ss, rfl, rfl, sensorFault_iff s, ?_,
    rfl, rfl, rfl, rfl⟩
  · rw [hmode]
    cases s.nav.mode <;> rfl
  · rw [hps]
    cases s.session.ps <;> rfl

end Sys2Proof.Machine
end

section
/-!
SUPPORT. The two fields of the model's own that the sensor engine neither reads nor writes (R34, R61).
-/
namespace Sys2Proof.Machine

/-- `s` with other collaborators' records: the words to come on the ports and what the bus collaborator has been told. -/
def withCollaborators (ws : List PortWord) (b : BusInterface) (s : State) : State := { s with script := ws, bus := b }

theorem busStep_withCollaborators (ws : List PortWord) (b : BusInterface) (rdata : Byte) (s : State) :
    busStep rdata (withCollaborators ws b s) =
      andThen (busStep rdata s) fun t => .next (withCollaborators ws b t) := by
  have hsession : (withCollaborators ws b s).session = s.session := rfl
  have hwrite : ∀ i v, writeScratch i v (withCollaborators ws b s) =
      andThen (writeScratch i v s) fun t => .next (withCollaborators ws b t) := by
    intro i v
    unfold writeScratch
    split <;> rfl
  unfold busStep
  rw [hsession]
  cases s.session.ps with
  | writeCalibration =>
    simp only [collectCalibrationByte, nextCalibrationByte, hsession, hwrite, andThen_ite, andThen_dite, andThen_assoc,
      andThen_next]
    rfl
  | adcWaitForMeasureFinish =>
    simp only [testStatus, andThen_ite, andThen_next, apply_ite (withCollaborators ws b)]
    rfl
  | adcReadingInProgress =>
    simp only [collectRawByte, hsession, hwrite, andThen_assoc, andThen_next, apply_ite (withCollaborators ws b)]
    rfl
  | adcStatusConfig | adcStatus | adcStartReading | readCalibration | configFinished | error => rfl

theorem coarseStep_withCollaborators (ws : List PortWord) (b : BusInterface) (s : State) :
    coarseStep (withCollaborators ws b s) = withCollaborators ws b (coarseStep s) := by
  unfold coarseStep
  rw [show (withCollaborators ws b s).session = s.session from rfl]
  cases s.session.ps <;> rfl

theorem sensorStep_withCollaborators (ws : List PortWord) (b : BusInterface) (p : InputPorts) (s : State) :
    sensorStep p (withCollaborators ws b s) =
      andThen (sensorStep p s) fun t => .next (withCollaborators ws b t) := by
  simp only [sensorStep, busStep_withCollaborators, coarseStep_withCollaborators, andThen_ite, andThen_next]
  rfl

end Sys2Proof.Machine
end

section
/-!
SUPPORT. The two clusters of R61: a step's part in each is a function of that cluster, its inputs and the parameters.
-/
namespace Sys2Proof.Machine

/-! ### The button, mode and clock cluster -/

/-- The user cluster after a cycle without RST is the same for states and ports that agree on it (R100, R152). -/
theorem userStep_user_congr {s s' : State} {p p' : InputPorts} (hparams : s.params = s'.params) (hnav : s.nav = s'.nav)
    (hdbA : s.dbA = s'.dbA) (hdbB : s.dbB = s'.dbB) (hclock : s.clock = s'.clock) (hsec : p.sec = p'.sec)
    (hfine : p.fine = p'.fine) (hA : p.btnAN = p'.btnAN) (hB : p.btnBN = p'.btnBN) (u u' : State) :
    (userStep p s u).nav = (userStep p' s' u').nav ∧ (userStep p s u).dbA = (userStep p' s' u').dbA ∧
      (userStep p s u).dbB = (userStep p' s' u').dbB ∧ (userStep p s u).clock = (userStep p' s' u').clock := by
  simp only [userStep_nav, userStep_dbA, userStep_dbB, userStep_clock, clockStep, hparams, hnav, hdbA, hdbB, hclock, hsec,
    hfine, hA, hB, and_self]

/-! ### The sensor cluster -/

/-- What the engine does in `s` it does in every state with the same parameters and sensor cluster; the rest it leaves. -/
theorem sensorStep_congr {s s' : State} (hparams : s.params = s'.params) (hsession : s.session = s'.session)
    (hcal : s.cal = s'.cal) (hwindow : s.window = s'.window) (p : InputPorts) :
    sensorStep p s' = andThen (sensorStep p s) fun u =>
      .next (withCollaborators s'.script s'.bus (withUserCluster s'.nav s'.dbA s'.dbB s'.clock u)) := by
  have hview : noCommand s' = withCollaborators s'.script s'.bus
      (withUserCluster s'.nav s'.dbA s'.dbB s'.clock (noCommand s)) := by
    simp only [noCommand, withCollaborators, withUserCluster, hparams, hsession, hcal, hwindow]
  rw [← sensorStep_noCommand, hview, sensorStep_withCollaborators, sensorStep_withUserCluster, andThen_assoc,
    sensorStep_noCommand]
  rfl

/-- R171 reads five of the ports. -/
theorem sensorStep_ports_congr {p p' : InputPorts} (hsrst : p.srst = p'.srst) (hbus : p.busEvt = p'.busEvt)
    (hnack : p.busNack = p'.busNack) (hrdata : p.busRdata = p'.busRdata) (hcoarse : p.coarse = p'.coarse) (s : State) :
    sensorStep p s = sensorStep p' s := by
  simp only [sensorStep, hsrst, hbus, hnack, hrdata, hcoarse]

/-- Settles O59: RST writes the same values into any two states; without it the user cluster's step and the engine's arm read
nothing of each other's cluster. -/
theorem theTwoClustersAreIndependent : Obligations.TheTwoClustersAreIndependent := by
  intro s s' t t' w w' rest rest' hs hs' hparams hrst hstep hstep'
  rw [step_of_fetch_input (fetch_fst_of_cons hs)] at hstep
  rw [step_of_fetch_input (fetch_fst_of_cons hs')] at hstep'
  rw [← sampled_params s, ← sampled_params s'] at hparams
  cases hr : (portsOf w).rst with
  | true =>
    rw [wholeCycle_of_rst hr] at hstep
    rw [wholeCycle_of_rst (hrst ▸ hr)] at hstep'
    cases hstep
    cases hstep'
    exact ⟨fun _ _ _ _ _ _ _ _ => ⟨rfl, rfl, rfl, rfl⟩, fun _ _ _ _ _ _ _ _ => ⟨rfl, rfl, rfl, rfl⟩⟩
  | false =>
    rw [wholeCycle_of_not_rst hr] at hstep
    rw [wholeCycle_of_not_rst (hrst ▸ hr)] at hstep'
    obtain ⟨u, hu, ht⟩ := andThen_eq_next hstep
    obtain ⟨u', hu', ht'⟩ := andThen_eq_next hstep'
    cases ht
    cases ht'
    constructor
    · intro hnav hdbA hdbB hclock hsec hfine hA hB
      exact userStep_user_congr hparams (by simpa using hnav) (by simpa using hdbA) (by simpa using hdbB)
        (by simpa using hclock) hsec hfine hA hB u u'
    · intro hsession hcal hwindow hsrst hbus hnack hrdata hcoarse
      rw [sensorStep_congr hparams (by simpa using hsession) (by simpa using hcal) (by simpa using hwindow),
        ← sensorStep_ports_congr hsrst hbus hnack hrdata hcoarse, hu, andThen_next] at hu'
      cases hu'
      exact ⟨rfl, rfl, rfl, rfl⟩

end Sys2Proof.Machine
end

section
/-!
SUPPORT. The host's bus duties (R280): a completion the engine waits for is answered by a command or by leaving WAITING.
-/
namespace Sys2Proof.Machine

/-- A bus completion after which the engine still waits issues the command it waits for. -/
theorem busMove_valid_of_isWaiting {rdata : Byte} {s t : State} (hs : s.session.ps.isWaiting = true)
    (h : BusMove rdata s t) (ht : t.session.ps.isWaiting = true) : t.cmd.valid = true := by
  cases h with
  | statusTest => unfold testStatus; split <;> rfl
  | lastCalibrationByte | lastRawByte => cases ht
  | ignored hps => rw [hs] at hps; cases hps
  | _ => rfl

/-- R171: in WAITING every bus event is answered, by the exception or by the protocol's next move. -/
theorem sensorStep_of_completion {p : InputPorts} {s : State} (hsrst : p.srst = false) (hbus : p.busEvt = true)
    (hs : s.session.ps.isWaiting = true) :
    sensorStep p s = if p.busNack then .next (raiseBusNack s) else busStep p.busRdata s := by
  have hps : s.session.ps ≠ .error := by
    intro he
    rw [he] at hs
    cases hs
  simp [sensorStep, hsrst, hbus, hs, hps]

/-- The engine waits after a cycle only for a command of that cycle, or as before in a cycle without a bus event. -/
theorem sensorStep_isWaiting {p : InputPorts} {s t : State} (h : sensorStep p s = .next t)
    (ht : t.session.ps.isWaiting = true) :
    t.cmd.valid = true ∨ (s.session.ps.isWaiting = true ∧ p.busEvt = false) := by
  cases sensorStep_move h with
  | reset => cases hc : s.cal.calValid <;> simp [hc, ProtocolState.isWaiting] at ht
  | nack => cases ht
  | bus _ _ _ hps hmove => exact .inl (busMove_valid_of_isWaiting hps hmove ht)
  | calibrate | acquire => exact .inl rfl
  | quiet hsrst =>
    rw [noCommand_session] at ht
    cases hbus : p.busEvt with
    | false => exact .inr ⟨ht, rfl⟩
    | true =>
      rw [sensorStep_of_completion hsrst hbus ht] at h
      split at h
      · have hps : .error = s.session.ps := congrArg (·.session.ps) (Host.Outcome.next.inj h)
        rw [← hps] at ht
        cases ht
      · exact .inl (busMove_valid_of_isWaiting ht (busStep_move h) ht)

/-- Settles O46: a step after which the engine waits issued the command, or left the one outstanding unanswered. -/
theorem waitingMeansACommandIsOutstanding : Obligations.WaitingMeansACommandIsOutstanding := by
  intro s t w rest before after hs hstep hbefore hafter ht
  rw [step_of_fetch_input (fetch_fst_of_cons hs)] at hstep
  have hkept : t.cmd.valid = true ∨ (s.session.ps.isWaiting = true ∧ (portsOf w).busEvt = false) := by
    cases hr : (portsOf w).rst with
    | true =>
      rw [wholeCycle_of_rst hr] at hstep
      cases hstep
      cases ht
    | false =>
      rw [wholeCycle_of_not_rst hr] at hstep
      obtain ⟨u, hu, hut⟩ := andThen_eq_next hstep
      cases hut
      simpa using sensorStep_isWaiting hu ht
  unfold outstandingAfter at hafter
  split at hafter
  · cases hafter
  · cases hafter
    rcases hkept with hv | ⟨hw, hbus⟩
    · rw [hv, Bool.true_or]
    · rw [hbefore hw, hbus]
      exact Bool.or_true _

end Sys2Proof.Machine
end

section
/-!
SUPPORT. Where a bus event stops (assumption 6): the sessions outside R38 (f) and (g).
-/
namespace Sys2Proof.Machine

/-- There is no seventh scratch cell (R50). -/
theorem writeScratch_of_not_lt {i : Fin 7} (hi : ¬ i.val < 6) (v : Byte) (s : State) :
    writeScratch i v s = .fault .scratchIndexOutOfRange := by
  rw [writeScratch, dif_neg hi]

/-- R176: a stored byte that is not the sixth is counted. -/
theorem collectCalibrationByte_of_lt {s : State} (hi : s.session.byteIndex.val < 5) (rdata : Byte) :
    collectCalibrationByte rdata s = nextCalibrationByte (storeByte rdata s (by omega)) := by
  unfold collectCalibrationByte
  rw [writeScratch_of_lt (by omega), andThen_next]
  exact if_neg (by unfold Config.calBytes; dsimp only; omega)

/-- `burstCnt` has no value 7 (R86). -/
theorem nextCalibrationByte_of_burstCnt {s : State} (hc : s.session.burstCnt.val = 6) :
    nextCalibrationByte s = .refused .unreachableSession := by
  rw [nextCalibrationByte, dif_neg (by omega)]

theorem busStep_of_writeCalibration {s : State} (hps : s.session.ps = .writeCalibration)
    (hc : s.session.burstCnt.val ≠ 0) (rdata : Byte) : busStep rdata s = collectCalibrationByte rdata s := by
  simp only [busStep, hps, if_neg hc]

/-- Settles O32: the byte counted past the burst, the byte stored past the scratch cells, and the poll without a rule. -/
theorem unreachableSessionsStop : Obligations.UnreachableSessionsStop := by
  intro s rdata drdy stop
  rw [exec_busOk]
  refine ⟨fun hps hc hi => ?_, fun hps hc hi => ?_, fun hps hc => ?_, fun hps hi => ?_⟩
  · rw [busStep_of_writeCalibration hps (by omega), collectCalibrationByte_of_lt (by omega)]
    exact nextCalibrationByte_of_burstCnt hc
  · rw [busStep_of_writeCalibration hps (by omega), collectCalibrationByte, writeScratch_of_not_lt (by omega),
      andThen_fault]
  · simp only [busStep, hps]
    rw [if_neg (by omega), if_neg (by omega)]
  · simp only [busStep, hps]
    rw [collectRawByte, writeScratch_of_not_lt (by omega), andThen_fault]

end Sys2Proof.Machine
end

section
/-!
SUPPORT. Runs of script lines (R87 to R89): a line that holds engine events alone is the engine's step, in the state where the
bus collaborator has captured the shown command.
-/
namespace Sys2Proof.Machine

/-! ### The ports of a line -/

/-- R70: an input word carries its ports. -/
theorem portsOf_inputWordOf (p : InputPorts) : portsOf (inputWordOf p) = p := by
  have hrdata : (inputWordOf p).extractLsb' 11 8 = p.busRdata := by
    apply BitVec.eq_of_getLsbD_eq
    intro i hi
    interval_cases i <;> simp [inputWordOf, bitAt]
  rw [portsOf, hrdata]
  simp [inputWordOf, bitAt]

theorem portsOf_lineWord (line : List Event) : portsOf (lineWord line) = linePorts line := portsOf_inputWordOf _

/-! ### The engine beside the collaborators' records -/

/-- The engine tells the bus collaborator nothing in the cycle itself (assumption 19). -/
theorem sensorStep_bus {p : InputPorts} {s t : State} (h : sensorStep p s = .next t) : t.bus = s.bus := by
  have hself := sensorStep_withCollaborators s.script s.bus p s
  rw [show withCollaborators s.script s.bus s = s from rfl, h, andThen_next] at hself
  calc t.bus = (withCollaborators s.script s.bus t).bus := congrArg State.bus (Host.Outcome.next.inj hself)
    _ = s.bus := rfl

theorem sensorStep_onPorts {p : InputPorts} {s t : State} (h : sensorStep p s = .next t) (ws : List InputWord) :
    sensorStep p (onPorts ws s) = .next (onPorts ws t) := by
  have hports := sensorStep_withCollaborators (ws.map .input) s.bus p s
  rw [h, andThen_next] at hports
  have hbus : withCollaborators (ws.map .input) s.bus t = onPorts ws t := by
    rw [← sensorStep_bus h]
    rfl
  rw [← hbus]
  exact hports

theorem sampled_onPorts_cons (w : InputWord) (ws : List InputWord) (s : State) :
    sampled (onPorts (w :: ws) s) = onPorts ws (captureCommand s) := by
  unfold sampled captureCommand
  rw [apply_ite (onPorts ws)]
  rfl

/-! ### Lines of engine events -/

/-- A line without RST, SEC and FINE runs the engine alone. -/
theorem runWords_line {line : List Event} {s t : State} (hrst : (linePorts line).rst = false)
    (hsec : (linePorts line).sec = false) (hfine : (linePorts line).fine = false)
    (h : sensorStep (linePorts line) (captureCommand s) = .next t) (ws : List InputWord) :
    runWords (lineWord line :: ws) s = runWords ws t := by
  have hstep : step (onPorts (lineWord line :: ws) s) = .next (onPorts ws t) := by
    rw [step_of_fetch_input (fetch_onPorts_cons _ _ _), portsOf_lineWord, wholeCycle_of_not_rst hrst,
      ← userStep_of_quiet hsec hfine, sampled_onPorts_cons]
    exact sensorStep_onPorts h ws
  rw [runWords_cons hstep]
  rfl

/-- A coarse tick alone is the engine's coarse step, which R172 (a) drops outside IDLE. -/
theorem sensorStep_coarse (s : State) : sensorStep (linePorts [.coarse]) s = .next (coarseStep s) := by
  cases hi : s.session.ps.isIdle with
  | true => simp [sensorStep, linePorts, addEvent, quietPorts, hi]
  | false => simp [sensorStep, linePorts, addEvent, quietPorts, hi, coarseStep_of_not_isIdle hi]

/-- A completion alone is the engine's bus step, which R172 (b) drops outside WAITING. -/
theorem sensorStep_busOk (rdata : Byte) (s : State) : sensorStep (linePorts [.busOk rdata]) s = busStep rdata s := by
  cases hw : s.session.ps.isWaiting with
  | true => simp [sensorStep, linePorts, addEvent, quietPorts, hw]
  | false => simp [sensorStep, linePorts, addEvent, quietPorts, hw, busStep_of_not_isWaiting hw]

theorem runWords_coarse (ws : List InputWord) (s : State) :
    runWords (lineWord [.coarse] :: ws) s = runWords ws (coarseStep (captureCommand s)) :=
  runWords_line rfl rfl rfl (sensorStep_coarse _) ws

theorem runWords_busOk {rdata : Byte} {s t : State} (h : busStep rdata (captureCommand s) = .next t)
    (ws : List InputWord) : runWords (lineWord [.busOk rdata] :: ws) s = runWords ws t :=
  runWords_line rfl rfl rfl ((sensorStep_busOk rdata _).trans h) ws

/-- The collaborator captures an issued command as R76's operations. -/
theorem captureCommand_issue (k : CommandKind) (d : Byte) (s : State) :
    captureCommand (issue k d s) = receiveCommand k s.params.slaveAddr d (issue k d s) := by
  rw [captureCommand_of_valid (s := issue k d s) rfl, issue_cmd, commandKindOf_bits]

end Sys2Proof.Machine
end

section
/-!
SUPPORT. The calibration read as a run (R174 to R177, R189).
-/
namespace Sys2Proof.Machine

/-- `s` in the calibration burst: the command `kind` that asks for byte `i` is shown, `scratch` holds the bytes so far, and `b` is
what the bus collaborator has been told before it. -/
def inBurst (s : State) (i : Fin 6) (kind : CommandKind) (scratch : Vector Byte 6) (b : BusInterface) : State :=
  issue kind 0#8
    { s with
      session := { ps := .writeCalibration, byteIndex := i.castSucc, burstCnt := i.succ, scratch := scratch }
      bus := b }

/-- R175: the pointer write's completion starts the burst. -/
theorem busStep_startCalibration (rdata : Byte) (s : State) :
    busStep rdata (captureCommand (startCalibration s)) =
      .next (inBurst s 0 .recvStart s.session.scratch
        { addr := s.params.slaveAddr, isRead := false, byteOut := s.params.regCalib, started := some .sendSingle }) := by
  rw [startCalibration, captureCommand_issue]
  rfl

/-- R176: a byte that is not the sixth is stored, and the next one asked for. -/
theorem busStep_inBurst {i j : Fin 6} (hij : i.val + 1 = j.val) (rdata : Byte) (s : State) (kind : CommandKind)
    (scratch : Vector Byte 6) (b : BusInterface) :
    busStep rdata (captureCommand (inBurst s i kind scratch b)) =
      .next (inBurst s j (if j.val = 5 then .recvFinish else .recvCont) (scratch.set i.val rdata)
        (sourceOperations kind s.params.slaveAddr 0#8 b)) := by
  obtain ⟨j, hj⟩ := j
  obtain rfl : i.val + 1 = j := hij
  have hi : i.val < 5 := by omega
  rw [inBurst, captureCommand_issue, busStep_of_writeCalibration rfl (Nat.succ_ne_zero _),
    collectCalibrationByte_of_lt hi, nextCalibrationByte,
    dif_pos ⟨show i.val + 1 < 7 by omega, show i.val + 1 + 1 < 7 by omega⟩]
  rfl

/-- R177: the sixth byte completes the calibration. -/
theorem busStep_inBurst_last {b0 b1 b2 b3 b4 b5 : Byte} {scratch : Vector Byte 6}
    (hall : scratch.set 5 b5 = #v[b0, b1, b2, b3, b4, b5]) (s : State) (kind : CommandKind) (b : BusInterface) :
    busStep b5 (captureCommand (inBurst s 5 kind scratch b)) =
      .next
        { s with
          session := { ps := .configFinished, byteIndex := 0, burstCnt := 0, scratch := #v[b0, b1, b2, b3, b4, b5] }
          cal := { t1 := b1 ++ b0, t2 := b3 ++ b2, t3 := b5 ++ b4, calValid := true }
          cmd := BusCommand.none
          bus := sourceOperations kind s.params.slaveAddr 0#8 b } := by
  have hdone : busStep b5 (captureCommand (inBurst s 5 kind scratch b)) =
      .next (calibrationDone
        { captureCommand (inBurst s 5 kind scratch b) with
          session := { ps := .writeCalibration, byteIndex := 5, burstCnt := 6, scratch := scratch.set 5 b5 } }) := by
    rw [inBurst, captureCommand_issue]
    rfl
  rw [hdone, hall, inBurst, captureCommand_issue]
  rfl

/-- Six stores fill the scratch cells. -/
theorem scratch_set_all (v : Vector Byte 6) (b0 b1 b2 b3 b4 b5 : Byte) :
    (((((v.set 0 b0).set 1 b1).set 2 b2).set 3 b3).set 4 b4).set 5 b5 = #v[b0, b1, b2, b3, b4, b5] := by
  ext i hi
  interval_cases i <;> simp

/-- The six bytes of the burst: each is stored and the next one asked for, the last with RECV_FINISH. -/
theorem runWords_calibrationBurst (s : State) (scratch : Vector Byte 6) (b : BusInterface)
    (b0 b1 b2 b3 b4 b5 : Byte) :
    runWords ([[.busOk b0], [.busOk b1], [.busOk b2], [.busOk b3], [.busOk b4], [.busOk b5]].map lineWord)
        (inBurst s 0 .recvStart scratch b) =
      .next
        { s with
          script := []
          session := { ps := .configFinished, byteIndex := 0, burstCnt := 0, scratch := #v[b0, b1, b2, b3, b4, b5] }
          cal := { t1 := b1 ++ b0, t2 := b3 ++ b2, t3 := b5 ++ b4, calValid := true }
          cmd := BusCommand.none
          bus := { b with addr := s.params.slaveAddr, isRead := true, started := some .recvFinish } } := by
  simp only [List.map_cons, List.map_nil]
  rw [runWords_busOk (busStep_inBurst (i := 0) (j := 1) rfl b0 _ _ _ _),
    runWords_busOk (busStep_inBurst (i := 1) (j := 2) rfl b1 _ _ _ _),
    runWords_busOk (busStep_inBurst (i := 2) (j := 3) rfl b2 _ _ _ _),
    runWords_busOk (busStep_inBurst (i := 3) (j := 4) rfl b3 _ _ _ _),
    runWords_busOk (busStep_inBurst (i := 4) (j := 5) rfl b4 _ _ _ _)]
  exact runWords_busOk (busStep_inBurst_last (scratch_set_all scratch b0 b1 b2 b3 b4 b5) s _ _) []

/-- Settles O39: the coarse tick, the pointer write's completion, and the six bytes of the burst. -/
theorem calibrationReadTakesOneCoarseAndSevenBusEvents :
    Obligations.CalibrationReadTakesOneCoarseAndSevenBusEvents := by
  intro s b0 b1 b2 b3 b4 b5 hps
  have hcoarse : coarseStep (captureCommand s) = startCalibration (captureCommand s) := by
    rw [coarseStep, captureCommand_session, hps]
  rw [calEvents, List.map_cons, List.map_cons, runWords_coarse, hcoarse,
    runWords_busOk (busStep_startCalibration _ _), runWords_calibrationBurst, captureCommand_eq]

end Sys2Proof.Machine
end

section
/-!
SUPPORT. The two word formats, read and written (R70, R73, R75): what each field of a word holds, and which rows a word matches.
-/
namespace Sys2Proof.Machine

/-! ### Format CMDW (R75) -/

/-- R75: each field of a command word reads back what the word was written with. -/
theorem fields_commandWordOf (kind : BitVec 3) (addr : BusAddr) (data : Byte) :
    kindField (commandWordOf kind addr data) = kind ∧ addrField (commandWordOf kind addr data) = addr ∧
      dataField (commandWordOf kind addr data) = data := by
  refine ⟨?_, ?_, ?_⟩
  all_goals
    apply BitVec.eq_of_getLsbD_eq
    intro i hi
    interval_cases i <;> simp [commandWordOf, kindField, addrField, dataField]

/-- R75: the three fields are the whole word. -/
theorem commandWordOf_fields (w : CommandWord) :
    commandWordOf (kindField w) (addrField w) (dataField w) = w := by
  apply BitVec.eq_of_getLsbD_eq
  intro i hi
  interval_cases i <;> simp [commandWordOf, kindField, addrField, dataField]

/-- R76: the eight kinds are all the values of a KIND field. -/
theorem bits_commandKindOf (b : BitVec 3) : (commandKindOf b).bits = b := by
  revert b
  decide

theorem encode_commandInstr (k : CommandKind) (addr : BusAddr) (data : Byte) :
    encode (commandInstr k addr data) = .command (commandWordOf k.bits addr data) := by
  cases k <;> rfl

/-- The word written with a kind and its operands decodes to them. -/
theorem decodeCommand_commandWordOf (k : CommandKind) (addr : BusAddr) (data : Byte) :
    decodeCommand (commandWordOf k.bits addr data) = commandInstr k addr data := by
  obtain ⟨hkind, haddr, hdata⟩ := fields_commandWordOf k.bits addr data
  rw [decodeCommand, hkind, haddr, hdata, commandKindOf_bits]

/-- Settles O2: the fields are the whole word, and each of the eight KIND values is a kind's. -/
theorem commandWordIsItsFields : Obligations.CommandWordIsItsFields := by
  intro w
  refine ⟨?_, commandKindOf (kindField w), bits_commandKindOf _, rfl⟩
  rw [decodeCommand, encode_commandInstr, bits_commandKindOf, commandWordOf_fields]

/-! ### Format IW (R70) -/

/-- R70: the ports leave no bit of an input word out: bits 0 to 10 are one port each, the rest are the byte. -/
theorem portsOf_injective : Function.Injective portsOf := by
  intro v w h
  simp only [portsOf, InputPorts.mk.injEq] at h
  obtain ⟨h0, h1, h2, h3, h4, h5, h6, h7, h8, h9, h10, hrdata⟩ := h
  apply BitVec.eq_of_getLsbD_eq
  intro i hi
  by_cases hbit : i < 11
  · interval_cases i <;> assumption
  · have hbyte := congrArg (·.getLsbD (i - 11)) hrdata
    simpa [show i - 11 < 8 by omega, show 11 + (i - 11) = i by omega] using hbyte

/-- R70: an input word is the word of its ports. -/
theorem inputWordOf_portsOf (w : InputWord) : inputWordOf (portsOf w) = w :=
  portsOf_injective (portsOf_inputWordOf (portsOf w))

/-- Settles O3: the bit numbers are the definition's, and reading and writing a word's ports are inverse to each other. -/
theorem inputWordIsItsPorts : Obligations.InputWordIsItsPorts :=
  ⟨fun _ => rfl, portsOf_inputWordOf, inputWordOf_portsOf⟩

/-! ### The rows of an input word (R73) -/

/-- A word matches an operation exactly through a row of the table whose mask test holds and whose operands are the word's. -/
theorem mem_matchingRows {w : InputWord} {i : Instr} :
    i ∈ matchingRows w ↔ ∃ r ∈ inputRows, w &&& r.mask = r.value ∧ r.read (portsOf w) = i := by
  simp [matchingRows, InputRow.matchesWord, and_assoc]

/-- Settles O4: each operation is read by one row of the table, so its mask test is the row's, and its operands are the ports'. -/
theorem rowsMatchExactlyTheirMasks : Obligations.RowsMatchExactlyTheirMasks := by
  intro w
  simp only [mem_matchingRows, inputRows, List.mem_cons, List.not_mem_nil, or_false, exists_eq_or_imp, exists_eq_left]
  simp only [reduceCtorEq, and_false, false_or, or_false, and_true]
  simp [portsOf, eq_comm]

/-- Settles O5: the decoder's value at each of the thirteen words. -/
theorem writtenWordsDecode : Obligations.WrittenWordsDecode := by
  refine ⟨?_, ?_, ?_, ?_, ?_, ?_, ?_, ?_, ?_, ?_, ?_, ?_, ?_⟩ <;> decide

/-- What selects an input-word row, as conditions on the ports (R73): RST hides every other row, SRST the bus and coarse rows. -/
def RowSelected (p : InputPorts) : Instr → Prop
  | .rst => p.rst = true
  | .srst => p.rst = false ∧ p.srst = true
  | .secTick => p.rst = false ∧ p.sec = true
  | .fineTick pa pb => p.rst = false ∧ p.fine = true ∧ pa = p.btnAN ∧ pb = p.btnBN
  | .fineAActive pb => p.rst = false ∧ p.fine = true ∧ p.btnAN = false ∧ pb = p.btnBN
  | .fineAInactive pb => p.rst = false ∧ p.fine = true ∧ p.btnAN = true ∧ pb = p.btnBN
  | .fineBActive pa => p.rst = false ∧ p.fine = true ∧ p.btnBN = false ∧ pa = p.btnAN
  | .fineBInactive pa => p.rst = false ∧ p.fine = true ∧ p.btnBN = true ∧ pa = p.btnAN
  | .busNack => p.rst = false ∧ p.srst = false ∧ p.busEvt = true ∧ p.busNack = true
  | .busOk rdata drdy stop => p.rst = false ∧ p.srst = false ∧ p.busEvt = true ∧ p.busNack = false ∧
      rdata = p.busRdata ∧ drdy = p.busDataReady ∧ stop = p.busStop
  | .coarseTick => p.rst = false ∧ p.srst = false ∧ p.coarse = true
  | .idle => p.rst = false ∧ p.srst = false ∧ p.sec = false ∧ p.fine = false ∧ p.coarse = false ∧ p.busEvt = false
  | .sendSingle _ _ | .sendStart _ _ | .sendCont _ _ | .sendFinish _ _ | .recvSingle _ _ | .recvStart _ _ | .recvCont _ _
  | .recvFinish _ _ => False

/-- R73's mask tests, as conditions on the ports. -/
theorem mem_matchingRows_iff_rowSelected {w : InputWord} {i : Instr} :
    i ∈ matchingRows w ↔ RowSelected (portsOf w) i := by
  rw [matchingRows_eq]
  simp only [List.mem_append, mem_ite_singleton]
  cases i <;> simp [RowSelected, and_assoc]

/-! ### Decoding an encoded operation -/

/-- Where a word selects one operation of R72's list, all its rows mean that operation: a further row is a branch of the fine
tick (R73, assumption 4). -/
theorem exec_eq_of_single {w : InputWord} {j k : Instr} (h : (matchingRows w).filter (fun i => !i.isFineBranch) = [k])
    (hj : j ∈ matchingRows w) (s : State) : exec j s = exec k s := by
  have hname : ∀ i ∈ matchingRows w, i.isFineBranch = false → i = k := by
    intro i hi hb
    have : i ∈ (matchingRows w).filter (fun i => !i.isFineBranch) := List.mem_filter.mpr ⟨hi, by simp [hb]⟩
    simpa [h] using this
  cases hb : j.isFineBranch with
  | false => rw [hname j hj hb]
  | true =>
    obtain ⟨hfine, hsame⟩ := fineBranch_means_fineTick hj hb
    rw [hsame, hname _ hfine rfl]

/-- An operation is a command row's, or the encoder writes a word that selects one operation and names it. -/
theorem encode_cases (i : Instr) :
    (∃ k addr data, i = commandInstr k addr data) ∨
      ∃ p, encode i = .input (inputWordOf p) ∧ RowSelected p i ∧
        ((matchingRows (inputWordOf p)).filter (fun i => !i.isFineBranch)).length = 1 := by
  cases i with
  | sendSingle addr data => exact .inl ⟨.sendSingle, addr, data, rfl⟩
  | sendStart addr data => exact .inl ⟨.sendStart, addr, data, rfl⟩
  | sendCont addr data => exact .inl ⟨.sendCont, addr, data, rfl⟩
  | sendFinish addr data => exact .inl ⟨.sendFinish, addr, data, rfl⟩
  | recvSingle addr data => exact .inl ⟨.recvSingle, addr, data, rfl⟩
  | recvStart addr data => exact .inl ⟨.recvStart, addr, data, rfl⟩
  | recvCont addr data => exact .inl ⟨.recvCont, addr, data, rfl⟩
  | recvFinish addr data => exact .inl ⟨.recvFinish, addr, data, rfl⟩
  | _ =>
    refine .inr ⟨_, rfl, ?_, ?_⟩
    · simp [RowSelected, quietPorts]
    · rw [operationRows_eq, portsOf_inputWordOf]
      rfl

/-- Settles O1: a command word decodes to the one row it was written from; an input word to its own row, and any further row is
another name of the same fine tick. -/
theorem encodedWordDecodesToItsInstruction : Obligations.EncodedWordDecodesToItsInstruction := by
  intro i
  rcases encode_cases i with ⟨k, addr, data, rfl⟩ | ⟨p, henc, hsel, hone⟩
  · rw [encode_commandInstr, decodeWord, decodeCommand_commandWordOf]
    exact ⟨List.mem_singleton_self _, fun j hj s => by rw [List.mem_singleton.mp hj]⟩
  · obtain ⟨k, hsingle⟩ := List.length_eq_one_iff.mp hone
    rw [henc, decodeWord]
    have hi : i ∈ matchingRows (inputWordOf p) := by rwa [mem_matchingRows_iff_rowSelected, portsOf_inputWordOf]
    exact ⟨hi, fun j hj s => (exec_eq_of_single hsingle hj s).trans (exec_eq_of_single hsingle hi s).symm⟩

end Sys2Proof.Machine
end

section
/-!
SUPPORT. The operations a cycle runs are rows its word matches, and a cycle reads no field its event bits do not select
(R71, R72, R74, R171).
-/
namespace Sys2Proof.Machine

/-! ### The operations of a cycle (R72, R171) -/

/-- The sensor engine's operations: the rows of R171's tests. -/
def isEngineOperation : Instr → Bool
  | .srst | .busNack | .busOk _ _ _ | .coarseTick => true
  | .rst | .secTick | .fineTick _ _ | .fineAActive _ | .fineAInactive _ | .fineBActive _ | .fineBInactive _ | .idle
  | .sendSingle _ _ | .sendStart _ _ | .sendCont _ _ | .sendFinish _ _
  | .recvSingle _ _ | .recvStart _ _ | .recvCont _ _ | .recvFinish _ _ => false

/-- R171: SRST, a bus event or a coarse tick gives the cycle one engine operation, and its row is selected. -/
theorem engineOperation_of_event {p : InputPorts} (hrst : p.rst = false)
    (h : p.srst = true ∨ p.busEvt = true ∨ p.coarse = true) (ps : ProtocolState) :
    ∃ i, engineOperation ps p = [i] ∧ isEngineOperation i = true ∧ RowSelected p i := by
  unfold engineOperation
  split
  · next hsrst => exact ⟨.srst, rfl, rfl, hrst, hsrst⟩
  next hsrst =>
  rw [Bool.not_eq_true] at hsrst
  split
  · next hn =>
    simp only [Bool.and_eq_true] at hn
    obtain ⟨⟨hbus, hnack⟩, -⟩ := hn
    exact ⟨.busNack, rfl, rfl, hrst, hsrst, hbus, hnack⟩
  next hn =>
  split
  · next hw =>
    rw [Bool.and_eq_true] at hw
    obtain ⟨hbus, hwait⟩ := hw
    have hps : ps ≠ .error := by
      rintro rfl
      cases hwait
    have hnack : p.busNack = false := by simpa [hbus, hps] using hn
    exact ⟨_, rfl, rfl, hrst, hsrst, hbus, hnack, rfl, rfl, rfl⟩
  split
  · next hc =>
    rw [Bool.and_eq_true] at hc
    exact ⟨.coarseTick, rfl, rfl, hrst, hsrst, hc.1⟩
  split
  · next hbus =>
    cases hnack : p.busNack with
    | true => exact ⟨.busNack, rfl, rfl, hrst, hsrst, hbus, hnack⟩
    | false => exact ⟨_, rfl, rfl, hrst, hsrst, hbus, hnack, rfl, rfl, rfl⟩
  next hbus =>
  have hcoarse : p.coarse = true := by simpa [hsrst, hbus] using h
  rw [if_pos hcoarse]
  exact ⟨.coarseTick, rfl, rfl, hrst, hsrst, hcoarse⟩

theorem engineOperation_rowSelected {p : InputPorts} (hrst : p.rst = false) {ps : ProtocolState} {i : Instr}
    (hi : i ∈ engineOperation ps p) : RowSelected p i := by
  by_cases h : p.srst = true ∨ p.busEvt = true ∨ p.coarse = true
  · obtain ⟨j, hj, -, hsel⟩ := engineOperation_of_event hrst h ps
    rw [hj, List.mem_singleton] at hi
    exact hi ▸ hsel
  · simp only [not_or, Bool.not_eq_true] at h
    obtain ⟨hsrst, hbus, hcoarse⟩ := h
    rw [engineOperation_of_quiet hsrst hbus hcoarse] at hi
    cases hi

theorem mem_userOperations {p : InputPorts} {i : Instr} :
    i ∈ userOperations p ↔
      p.sec = true ∧ i = .secTick ∨ p.fine = true ∧ i = .fineTick p.btnAN p.btnBN := by
  rw [userOperations, List.mem_append, mem_ite_singleton, mem_ite_singleton]

theorem filter_userOperations (p : InputPorts) : (userOperations p).filter isEngineOperation = [] := by
  simp [userOperations, filter_ite_singleton, isEngineOperation]

theorem operations_of_rst {p : InputPorts} (hr : p.rst = true) (ps : ProtocolState) : operations ps p = [.rst] :=
  if_pos hr

/-- R72: a cycle runs only rows its ports select. -/
theorem operations_rowSelected {p : InputPorts} {ps : ProtocolState} {i : Instr} (hi : i ∈ operations ps p) :
    RowSelected p i := by
  cases hr : p.rst with
  | true =>
    rw [operations_of_rst hr, List.mem_singleton] at hi
    exact hi ▸ hr
  | false =>
    cases he : p.sec || p.fine || p.coarse || p.busEvt || p.srst with
    | false =>
      rw [operations_of_no_event hr he, List.mem_singleton] at hi
      simp only [Bool.or_eq_false_iff] at he
      obtain ⟨⟨⟨⟨hsec, hfine⟩, hcoarse⟩, hbus⟩, hsrst⟩ := he
      exact hi ▸ ⟨hr, hsrst, hsec, hfine, hcoarse, hbus⟩
    | true =>
      rw [operations_of_event hr he, List.mem_append, mem_userOperations] at hi
      obtain (⟨hsec, rfl⟩ | ⟨hfine, rfl⟩) | hengine := hi
      · exact ⟨hr, hsec⟩
      · exact ⟨hr, hfine, rfl, rfl⟩
      · exact engineOperation_rowSelected hr hengine

/-- The user cluster's rows run whenever they are selected (R72). -/
theorem mem_operations_of_user {p : InputPorts} {i : Instr} (hr : p.rst = false) (hi : i ∈ userOperations p)
    (ps : ProtocolState) : i ∈ operations ps p := by
  have he : (p.sec || p.fine || p.coarse || p.busEvt || p.srst) = true := by
    rcases mem_userOperations.mp hi with ⟨hsec, -⟩ | ⟨hfine, -⟩
    · simp [hsec]
    · simp [hfine]
  rw [operations_of_event hr he]
  exact List.mem_append_left _ hi

/-- The engine's rows are selected by SRST, a bus event or a coarse tick, and never beside RST. -/
theorem event_of_engineRow {p : InputPorts} {i : Instr} (hi : isEngineOperation i = true) (hsel : RowSelected p i) :
    p.rst = false ∧ (p.srst = true ∨ p.busEvt = true ∨ p.coarse = true) := by
  cases i with
  | srst => exact ⟨hsel.1, .inl hsel.2⟩
  | busNack | busOk =>
    obtain ⟨hr, -, hbus, -⟩ := hsel
    exact ⟨hr, .inr (.inl hbus)⟩
  | coarseTick =>
    obtain ⟨hr, -, hcoarse⟩ := hsel
    exact ⟨hr, .inr (.inr hcoarse)⟩
  | _ => cases hi

/-- R171: a cycle with one of the engine's rows runs one engine operation. -/
theorem operations_engine_length {p : InputPorts} {i : Instr} (hi : isEngineOperation i = true) (hsel : RowSelected p i)
    (ps : ProtocolState) : ((operations ps p).filter isEngineOperation).length = 1 := by
  obtain ⟨hr, hevent⟩ := event_of_engineRow hi hsel
  obtain ⟨j, hj, hengine, -⟩ := engineOperation_of_event hr hevent ps
  have he : (p.sec || p.fine || p.coarse || p.busEvt || p.srst) = true := by
    rcases hevent with h | h | h <;> simp [h]
  rw [operations_of_event hr he, List.filter_append, filter_userOperations, hj, List.nil_append,
    List.filter_cons_of_pos hengine]
  rfl

/-- Settles O6: each clause is a fact about what the ports select, which the mask tests say of the rows. -/
theorem cycleRunsMatchingRows : Obligations.CycleRunsMatchingRows := by
  intro ps w
  simp only [mem_matchingRows_iff_rowSelected]
  refine ⟨fun i => operations_rowSelected, fun hr => operations_of_rst hr ps, ?_, ?_, ?_, ?_⟩
  · rintro ⟨hr, hsec⟩
    exact mem_operations_of_user hr (mem_userOperations.mpr (.inl ⟨hsec, rfl⟩)) ps
  · rintro pa pb ⟨hr, hfine, rfl, rfl⟩
    exact mem_operations_of_user hr (mem_userOperations.mpr (.inr ⟨hfine, rfl⟩)) ps
  · rintro ⟨hr, hsrst, hsec, hfine, hcoarse, hbus⟩
    exact operations_of_no_event hr (by simp [hsrst, hsec, hfine, hcoarse, hbus]) ps
  · rintro ⟨i, hsel, hi⟩
    have hengine : isEngineOperation i = true := by
      obtain rfl | rfl | rfl | ⟨r, d, t, rfl⟩ := hi <;> rfl
    rw [List.filter_congr (q := isEngineOperation) fun j _ => by cases j <;> rfl]
    exact operations_engine_length hengine hsel ps

/-! ### Fields a cycle does not read (R71, R74) -/

/-- R171 reads the two bus fields only beside a bus event. -/
theorem sensorStep_fields_congr {p q : InputPorts} (hsrst : p.srst = q.srst) (hbus : p.busEvt = q.busEvt)
    (hcoarse : p.coarse = q.coarse) (hfields : p.busEvt = true → p.busNack = q.busNack ∧ p.busRdata = q.busRdata)
    (s : State) : sensorStep p s = sensorStep q s := by
  cases hb : p.busEvt with
  | true =>
    obtain ⟨hnack, hrdata⟩ := hfields hb
    exact sensorStep_ports_congr hsrst hbus hnack hrdata hcoarse s
  | false => simp only [sensorStep, ← hsrst, ← hbus, ← hcoarse, hb, Bool.false_and, Bool.false_eq_true, if_false]

/-- R100 reads the two pin levels only in a fine tick. -/
theorem userStep_fields_congr {p q : InputPorts} (hsec : p.sec = q.sec) (hfine : p.fine = q.fine)
    (hpins : p.fine = true → p.btnAN = q.btnAN ∧ p.btnBN = q.btnBN) (s t : State) :
    userStep p s t = userStep q s t := by
  cases hf : p.fine with
  | true =>
    obtain ⟨hA, hB⟩ := hpins hf
    simp only [userStep, clockStep, hsec, hfine, hA, hB]
  | false => simp only [userStep, clockStep, hsec, ← hfine, hf, Bool.false_eq_true, if_false]

/-- Settles O10: the one assignment of a cycle reads the pins in a fine tick, the bus fields beside a bus event, and DRDY and
STOP nowhere. -/
theorem dontCareFieldsDoNotMatter : Obligations.DontCareFieldsDoNotMatter := by
  intro s p q hsec hfine hcoarse hbus hsrst hrst hpins hfields
  rw [cycle_eq_wholeCycle, cycle_eq_wholeCycle]
  cases hr : p.rst with
  | true => rw [wholeCycle_of_rst hr, wholeCycle_of_rst (hrst ▸ hr)]
  | false =>
    rw [wholeCycle_of_not_rst hr, wholeCycle_of_not_rst (hrst ▸ hr), sensorStep_fields_congr hsrst hbus hcoarse hfields]
    simp only [userStep_fields_congr hsec hfine hpins]

end Sys2Proof.Machine
end

section
/-!
SUPPORT. The assembly of multi-byte operands, as integers (R80, R81).
-/
namespace Sys2Proof.Machine

/-- Two bit patterns side by side, as a number. -/
theorem toNat_append_eq_mul_add {m n : Nat} (x : BitVec m) (y : BitVec n) :
    (x ++ y).toNat = x.toNat * 2 ^ n + y.toNat := by
  rw [BitVec.toNat_append, ← Nat.shiftLeft_add_eq_or_of_lt y.isLt, Nat.shiftLeft_eq]

/-- R52: `hi` stands in bits [15:8]. -/
theorem toNat_littleEndianPair (lo hi : Byte) : (littleEndianPair lo hi).toNat = hi.toNat * 256 + lo.toNat :=
  toNat_append_eq_mul_add hi lo

theorem zext16_littleEndianPair (lo hi : Byte) : zext16 (littleEndianPair lo hi) = (hi.toNat : Int) * 256 + lo.toNat := by
  rw [zext16, toNat_littleEndianPair]
  push_cast
  rfl

/-- The sign of a pair is the sign of its high byte. -/
theorem sext16_littleEndianPair (lo hi : Byte) :
    sext16 (littleEndianPair lo hi) =
      if hi.toNat < 128 then (hi.toNat : Int) * 256 + lo.toNat else (hi.toNat : Int) * 256 + lo.toNat - 65536 := by
  have hlo := lo.isLt
  rw [sext16, BitVec.toInt_eq_toNat_cond, toNat_littleEndianPair]
  split_ifs <;> omega

/-- Settles O47: T1 is the first pair read unsigned, T2 and T3 the other two read with their sign. -/
theorem calAssembleReadsLittleEndianPairs : Obligations.CalAssembleReadsLittleEndianPairs := fun b0 b1 b2 b3 b4 b5 =>
  ⟨zext16_littleEndianPair b0 b1, sext16_littleEndianPair b2 b3, sext16_littleEndianPair b4 b5⟩

/-- Settles O48: three patterns side by side, of 8, 8 and 4 bits. -/
theorem rawAssemblePlacesTheBytes : Obligations.RawAssemblePlacesTheBytes := by
  intro s
  rw [rawAssemble, toNat_append_eq_mul_add, toNat_append_eq_mul_add, BitVec.toNat_ofNat]
  omega

end Sys2Proof.Machine
end

section
/-!
SUPPORT. The commands the engine issues (R77, R78, R79), and the reserved one.
-/
namespace Sys2Proof.Machine

/-! ### The command register (R79) -/

theorem commandOk_none (p : Params) : CommandOk p BusCommand.none := .inl rfl

/-- A command of R79's list is issued to SLAVE_ADDR. -/
theorem commandOk_issue {k : CommandKind} {d : Byte} {s : State} (h : (k.bits, d) ∈ emittablePairs s.params) :
    CommandOk (issue k d s).params (issue k d s).cmd := .inr ⟨rfl, rfl, h⟩

/-- Each rule of a bus completion writes NONE or issues a command of R79's list. -/
theorem busMove_commandOk {rdata : Byte} {s t : State} (h : BusMove rdata s t) : CommandOk t.params t.cmd := by
  cases h with
  | calibrationByte => split <;> exact commandOk_issue (by simp [emittablePairs])
  | statusTest =>
    unfold testStatus
    split <;> exact commandOk_issue (by simp [emittablePairs])
  | startBurst | controlValue | statusPointer | statusRead | rawBurst | firstRawByte =>
    exact commandOk_issue (by simp [emittablePairs])
  | lastCalibrationByte | lastRawByte | ignored => exact commandOk_none _

theorem engineMove_commandOk {p : InputPorts} {s t : State} (h : EngineMove p s t) : CommandOk t.params t.cmd := by
  cases h with
  | bus _ _ _ _ hmove => exact busMove_commandOk hmove
  | calibrate | acquire => exact commandOk_issue (by simp [emittablePairs])
  | reset | nack | quiet => exact commandOk_none _

/-- R13: every kind of step writes the command register, so what it held before does not matter. -/
theorem step_commandOk {s t : State} (h : step s = .next t) : CommandOk t.params t.cmd := by
  rcases step_eq_next h with ⟨w, -, hw⟩ | ⟨k, a, d, rfl⟩
  · rcases wholeCycle_eq_next hw with ⟨-, rfl⟩ | ⟨-, u, hu, rfl⟩
    · exact commandOk_none _
    · exact engineMove_commandOk (t := u) hu
  · exact commandOk_none _

/-- R79's list holds no SEND_CONT, and its receive commands carry no data (R77, R78). -/
theorem emittablePairs_allowed (p : Params) :
    ∀ c ∈ emittablePairs p, c.1 ≠ CommandKind.sendCont.bits ∧ (readFlag c.1 = true → c.2 = 0#8) := by
  simp [emittablePairs, CommandKind.bits, readFlag]

/-- Settles O44: after every step the register is NONE or of R79's list, and neither is SEND_CONT or a receive with data. -/
theorem onlyListedCommandsAreEmitted : Obligations.OnlyListedCommandsAreEmitted := by
  intro s t _ hstep
  have hok := step_commandOk hstep
  refine ⟨hok, ?_⟩
  rcases hok with hnone | ⟨hvalid, -, hpair⟩
  · rw [hnone]
    exact ⟨nofun, fun _ => rfl, fun _ => rfl⟩
  · obtain ⟨hkind, hdata⟩ := emittablePairs_allowed t.params _ hpair
    refine ⟨hkind, fun hinvalid => ?_, hdata⟩
    rw [hvalid] at hinvalid
    cases hinvalid

/-! ### The reserved command (R78) -/

/-- Settles O43: the reserved kind's arm is the refusal by name (assumption 16). -/
theorem sendContIsRefused : Obligations.SendContIsRefused := fun _ _ _ => rfl

theorem kindAllowed_commandInstr {k : CommandKind} {a : BusAddr} {d : Byte}
    (h : (commandInstr k a d).kindAllowed = true) : k ≠ .sendCont := by
  rintro rfl
  cases h

/-- Settles O57: an input word's step answers next by the invariants, a command word's by its kind. -/
theorem invariantStatesNeverStop : Obligations.InvariantStatesNeverStop := by
  intro s hs hallowed
  cases hf : (fetch s).1 with
  | input w => exact step_completes_of_input hs hf
  | command w =>
    rw [NextWordAllowed, hf] at hallowed
    have hk := kindAllowed_commandInstr (hallowed (decodeCommand w) (List.mem_singleton_self _))
    rw [step_of_fetch_command hf]
    exact ⟨_, exec_commandInstr hk _ _ _⟩

end Sys2Proof.Machine
end

section
/-!
SUPPORT. The acquisition as a run (R179 to R186, R189).
-/
namespace Sys2Proof.Machine

/-- `s` in an acquisition: the engine is in the session `ss` and shows a command, and `b` is what the bus collaborator has been
told before it. -/
def acquiring (s : State) (ss : SensorSession) (k : CommandKind) (d : Byte) (b : BusInterface) : State :=
  issue k d { s with session := ss, bus := b }

/-! ### One event, rule by rule -/

/-- In an acquisition the bus collaborator captures the shown command as R76's operations. -/
theorem captureCommand_acquiring (s : State) (ss : SensorSession) (k : CommandKind) (d : Byte) (b : BusInterface) :
    captureCommand (acquiring s ss k d b) =
      issue k d { s with session := ss, bus := sourceOperations k s.params.slaveAddr d b } :=
  captureCommand_issue k d _

/-- R179. -/
theorem coarseStep_of_configFinished {s : State} (hps : s.session.ps = .configFinished) :
    coarseStep (captureCommand s) =
      acquiring s ⟨.adcStatusConfig, 0, 0, s.session.scratch⟩ .sendStart s.params.regCtrlMeas (captureCommand s).bus := by
  rw [coarseStep, captureCommand_session, hps, captureCommand_eq]
  rfl

section
variable {s : State} {i c : Fin 7} {v : Vector Byte 6} {k : CommandKind} {d : Byte} {b : BusInterface} (rdata : Byte)

/-- R180. -/
theorem busStep_adcStatusConfig :
    busStep rdata (captureCommand (acquiring s ⟨.adcStatusConfig, i, c, v⟩ k d b)) =
      .next (acquiring s ⟨.adcStatus, i, c, v⟩ .sendFinish s.params.ctrlMeasValue
        (sourceOperations k s.params.slaveAddr d b)) := by
  rw [captureCommand_acquiring]
  rfl

/-- R181. -/
theorem busStep_adcStatus :
    busStep rdata (captureCommand (acquiring s ⟨.adcStatus, i, c, v⟩ k d b)) =
      .next (acquiring s ⟨.adcWaitForMeasureFinish, i, 0, v⟩ .sendSingle s.params.regStatus
        (sourceOperations k s.params.slaveAddr d b)) := by
  rw [captureCommand_acquiring]
  rfl

/-- R182. -/
theorem busStep_statusPointer :
    busStep rdata (captureCommand (acquiring s ⟨.adcWaitForMeasureFinish, i, 0, v⟩ k d b)) =
      .next (acquiring s ⟨.adcWaitForMeasureFinish, i, 1, v⟩ .recvSingle 0#8
        (sourceOperations k s.params.slaveAddr d b)) := by
  rw [captureCommand_acquiring]
  rfl

/-- R183: a status byte is tested with the parameters. -/
theorem busStep_statusByte :
    busStep rdata (captureCommand (acquiring s ⟨.adcWaitForMeasureFinish, i, 1, v⟩ k d b)) =
      .next (if ready s.params rdata then
          acquiring s ⟨.adcStartReading, i, 0, v⟩ .sendSingle s.params.regTemp
            (sourceOperations k s.params.slaveAddr d b)
        else
          acquiring s ⟨.adcWaitForMeasureFinish, i, 0, v⟩ .sendSingle s.params.regStatus
            (sourceOperations k s.params.slaveAddr d b)) := by
  rw [captureCommand_acquiring]
  rfl

theorem busStep_statusByte_of_ready {rdata : Byte} (h : ready s.params rdata = true) :
    busStep rdata (captureCommand (acquiring s ⟨.adcWaitForMeasureFinish, i, 1, v⟩ k d b)) =
      .next (acquiring s ⟨.adcStartReading, i, 0, v⟩ .sendSingle s.params.regTemp
        (sourceOperations k s.params.slaveAddr d b)) := by
  rw [busStep_statusByte, if_pos h]

theorem busStep_statusByte_of_not_ready {rdata : Byte} (h : ready s.params rdata = false) :
    busStep rdata (captureCommand (acquiring s ⟨.adcWaitForMeasureFinish, i, 1, v⟩ k d b)) =
      .next (acquiring s ⟨.adcWaitForMeasureFinish, i, 0, v⟩ .sendSingle s.params.regStatus
        (sourceOperations k s.params.slaveAddr d b)) := by
  rw [busStep_statusByte, if_neg (Bool.eq_false_iff.mp h)]

/-- R184. -/
theorem busStep_adcStartReading :
    busStep rdata (captureCommand (acquiring s ⟨.adcStartReading, i, c, v⟩ k d b)) =
      .next (acquiring s ⟨.adcReadingInProgress, 0, 1, v⟩ .recvStart 0#8
        (sourceOperations k s.params.slaveAddr d b)) := by
  rw [captureCommand_acquiring]
  rfl

/-- R185, the first raw byte. -/
theorem busStep_firstRawByte :
    busStep rdata (captureCommand (acquiring s ⟨.adcReadingInProgress, 0, c, v⟩ k d b)) =
      .next (acquiring s ⟨.adcReadingInProgress, 1, 2, v.set 0 rdata⟩ .recvFinish 0#8
        (sourceOperations k s.params.slaveAddr d b)) := by
  rw [captureCommand_acquiring]
  rfl

/-- R185, the second raw byte: the sample of the two stored bytes is appended. -/
theorem busStep_lastRawByte :
    busStep rdata (captureCommand (acquiring s ⟨.adcReadingInProgress, 1, c, v⟩ k d b)) =
      .next
        { s with
          session := { ps := .configFinished, byteIndex := 0, burstCnt := 0, scratch := v.set 1 rdata }
          window := windowAppend (compensatedSample s.params s.cal (rawAssemble (v.set 1 rdata))) s.window
          cmd := BusCommand.none
          bus := sourceOperations k s.params.slaveAddr d b } := by
  rw [captureCommand_acquiring]
  rfl

end

/-! ### The script ACQ (R89) -/

/-- `s` waiting for a status byte (R182): the bus collaborator has been told the status pointer, and RECV_SINGLE is shown. -/
def awaitingStatus (s : State) : State :=
  acquiring s ⟨.adcWaitForMeasureFinish, 0, 1, s.session.scratch⟩ .recvSingle 0#8
    { addr := s.params.slaveAddr, isRead := false, byteOut := s.params.regStatus, started := some .sendSingle }

/-- R179 to R182: the coarse tick and three completions lead to the first status byte. -/
theorem runWords_acquisitionStart {s : State} (hps : s.session.ps = .configFinished) (ws : List InputWord) :
    runWords ([[.coarse], [.busOk 0#8], [.busOk 0#8], [.busOk 0#8]].map lineWord ++ ws) s =
      runWords ws (awaitingStatus s) := by
  simp only [List.map_cons, List.map_nil, List.cons_append, List.nil_append]
  rw [runWords_coarse, coarseStep_of_configFinished hps, runWords_busOk (busStep_adcStatusConfig _),
    runWords_busOk (busStep_adcStatus _), runWords_busOk (busStep_statusPointer _)]
  rfl

/-- R183, R182: a poll that finds the sensor not ready leads back to the status byte. -/
theorem runWords_poll {s : State} (h : ready s.params 0x00#8 = false) (ws : List InputWord) :
    runWords ([[.busOk 0x00#8], [.busOk 0#8]].map lineWord ++ ws) (awaitingStatus s) = runWords ws (awaitingStatus s) := by
  simp only [List.map_cons, List.map_nil, List.cons_append, List.nil_append]
  rw [awaitingStatus, runWords_busOk (busStep_statusByte_of_not_ready h), runWords_busOk (busStep_statusPointer _)]
  rfl

theorem runWords_polls {s : State} (h : ready s.params 0x00#8 = false) (k : Nat) (ws : List InputWord) :
    runWords ((List.replicate k [[Event.busOk 0x00#8], [Event.busOk 0#8]]).flatten.map lineWord ++ ws)
        (awaitingStatus s) = runWords ws (awaitingStatus s) := by
  induction k with
  | zero => rfl
  | succ k ih =>
    rw [List.replicate_succ, List.flatten_cons, List.map_append, List.append_assoc, runWords_poll h]
    exact ih

/-- R81: the raw code of the two bytes the burst stored. -/
theorem rawAssemble_set_set (v : Vector Byte 6) (r0 r1 : Byte) :
    rawAssemble ((v.set 0 r0).set 1 r1) = r0 ++ r1 ++ 0#4 := by
  simp [rawAssemble]

/-- R183 to R185: the ready status, the temperature pointer and the two raw bytes end the acquisition with one sample. -/
theorem runWords_acquisitionEnd {s : State} (h : ready s.params 0x01#8 = true) (r0 r1 : Byte) :
    runWords ([[.busOk 0x01#8], [.busOk 0#8], [.busOk r0], [.busOk r1]].map lineWord) (awaitingStatus s) =
      .next
        { s with
          script := []
          session := { ps := .configFinished, byteIndex := 0, burstCnt := 0
                       scratch := (s.session.scratch.set 0 r0).set 1 r1 }
          window := windowAppend (compensatedSample s.params s.cal (r0 ++ r1 ++ 0#4)) s.window
          cmd := BusCommand.none
          bus := { addr := s.params.slaveAddr, isRead := true, byteOut := s.params.regTemp, started := some .recvFinish } } := by
  simp only [List.map_cons, List.map_nil]
  rw [awaitingStatus, runWords_busOk (busStep_statusByte_of_ready h), runWords_busOk (busStep_adcStartReading _),
    runWords_busOk (busStep_firstRawByte _), runWords_busOk (busStep_lastRawByte _), runWords_nil, rawAssemble_set_set]
  rfl

/-- Settles O40: the start, the polls by induction on their number, and the end with its one sample. -/
theorem acquisitionWithKPollsAppendsOneSample : Obligations.AcquisitionWithKPollsAppendsOneSample := by
  intro s r0 r1 k hps hnotReady hready
  rw [acqEvents, List.map_append, List.map_append, List.append_assoc, runWords_acquisitionStart hps,
    runWords_polls hnotReady, runWords_acquisitionEnd hready]

end Sys2Proof.Machine
end

section
/-!
SUPPORT. One fine tick, part by part: Debounce (R101), the classification table (R104, R105), the idle timeout (R112), and what
the mode FSM makes of them (R100).
-/
namespace Sys2Proof.Machine

/-! ### Debounce (R101) -/

theorem debounce_low (heldW : Nat) (db : ButtonObservation) :
    debounce heldW db false =
      if db.released then (ButtonObservation.clear, some (satInc heldW db.held))
      else ({ pressed := true, released := false, held := satInc heldW db.held }, none) := by
  cases hr : db.released with
  | true => simp [debounce, hr]
  | false => rw [debounce_active hr, if_neg Bool.false_ne_true]

theorem debounce_high (heldW : Nat) (db : ButtonObservation) :
    debounce heldW db true =
      if db.pressed && (db.released || decide (1 ≤ db.held)) then (ButtonObservation.clear, some db.held)
      else if 1 ≤ db.held then ({ db with released := true }, none)
      else (db, none) := by
  by_cases hh : 1 ≤ db.held
  · cases hp : db.pressed with
    | true => simp [debounce_release hp hh, hh]
    | false => simp [debounce, hp, hh, Config.debounceFloor]
  · simp [debounce, hh, Config.debounceFloor]

/-- Settles O14: the fine tick writes Debounce's records, and Debounce is its two branches, by the sampled level. -/
theorem debounceFollowsItsRule : Obligations.DebounceFollowsItsRule :=
  ⟨fun _ _ _ => ⟨_, exec_fineTick _ _ _, rfl, rfl⟩, fun heldW db => ⟨debounce_low heldW db, debounce_high heldW db⟩⟩

/-! ### The classification table (R104, R105) -/

theorem inRange_iff {r : Nat × Nat} {d : Nat} : inRange r d = true ↔ r.1 ≤ d ∧ d ≤ r.2 := by
  simp [inRange]

theorem classify_showTemperature (d : Nat) : classify .showTemperature d =
    if 1 ≤ d ∧ d ≤ 90 then .showClock else if 100 ≤ d ∧ d ≤ 300 then .editHours else .showTemperature := by
  simp only [classify, inRange_iff, Config.aStShort, Config.aStLong]

theorem classify_editHours (d : Nat) :
    classify .editHours d = if 1 ≤ d ∧ d ≤ 50 then .editMinutes else .editHours := by
  simp only [classify, inRange_iff, Config.aEdit]

theorem classify_editMinutes (d : Nat) :
    classify .editMinutes d = if 1 ≤ d ∧ d ≤ 50 then .showTemperature else .editMinutes := by
  simp only [classify, inRange_iff, Config.aEdit]

/-- Settles O15: one equation per mode. -/
theorem classifyFollowsTheTable : Obligations.ClassifyFollowsTheTable := fun d =>
  ⟨classify_showTemperature d, classify_editHours d, classify_editMinutes d, rfl⟩

/-! ### The mode FSM (R100, R106, R112) -/

theorem idleTimeout_eq (n : Navigation) : idleTimeout n =
    if n.idleCnt.val + 1 = 300 then { mode := .showTemperature, idleCnt := 0 }
    else { n with idleCnt := n.idleCnt + 1 } := by
  have hcnt := n.idleCnt.isLt
  unfold idleTimeout
  split
  · next hlt =>
    have hlt : n.idleCnt.val + 1 < 300 := hlt
    rw [if_neg hlt.ne]
    congr 1
    exact Fin.ext (by simp [Fin.val_add, Nat.mod_eq_of_lt hlt])
  · next hge => rw [if_pos (by simp only [Config.idleTimeout] at hge; omega)]

theorem navigate_of_showClock {n : Navigation} (h : n.mode = .showClock) (d : Option Nat) :
    navigate n d = idleTimeout n := if_pos h

theorem navigate_of_ne_showClock {n : Navigation} (h : n.mode ≠ .showClock) (d : Option Nat) :
    navigate n d = (d.map fun d => { n with mode := classify n.mode d }).getD n := by
  refine (if_neg h).trans ?_
  cases d <;> rfl

/-- Settles O16: the fine tick is its own definition but for the mode FSM, which is split on ShowClock. -/
theorem fineTickCompletes : Obligations.FineTickCompletes := by
  intro pa pb s
  rw [exec_fineTick, fineTick]
  by_cases hm : s.nav.mode = .showClock
  · rw [if_pos hm, navigate_of_showClock hm, idleTimeout_eq, hm]
    rfl
  · rw [if_neg hm, navigate_of_ne_showClock hm]
    cases (debounce s.params.heldW s.dbA pa).2 <;> rfl

/-! ### The branch rows (R101, R141) -/

@[simp] theorem exec_fineAActive (p : Bool) (s : State) : exec (.fineAActive p) s = .next (fineTick false p s) := rfl
@[simp] theorem exec_fineAInactive (p : Bool) (s : State) : exec (.fineAInactive p) s = .next (fineTick true p s) := rfl
@[simp] theorem exec_fineBActive (p : Bool) (s : State) : exec (.fineBActive p) s = .next (fineTick p false s) := rfl
@[simp] theorem exec_fineBInactive (p : Bool) (s : State) : exec (.fineBInactive p) s = .next (fineTick p true s) := rfl

@[simp] theorem digitIncrement_none (m : Mode) (t : ClockTime) : digitIncrement m none t = t := rfl

/-- Settles O17: each row is the fine tick with its pin fixed; an active pin completes nothing, an inactive one the press. -/
theorem fineBranchRowsComplete : Obligations.FineBranchRowsComplete := by
  intro p s
  refine ⟨⟨_, exec_fineAActive p s, exec_fineTick _ _ s, rfl, fun hr => ?_⟩,
    ⟨_, exec_fineAInactive p s, exec_fineTick _ _ s, rfl, fun hp hh => ?_⟩,
    ⟨_, exec_fineBActive p s, exec_fineTick _ _ s, rfl, fun hr => ?_⟩,
    ⟨_, exec_fineBInactive p s, exec_fineTick _ _ s, rfl, fun hp hh => ?_⟩⟩
  · rw [fineTick_dbA, fineTick_nav, debounce_active hr]
    exact ⟨rfl, fun hm => navigate_of_ne_showClock hm none⟩
  · rw [fineTick_dbA, fineTick_nav, debounce_release hp hh]
    exact ⟨rfl, fun hm => congrArg Navigation.mode (navigate_of_ne_showClock hm _)⟩
  · rw [fineTick_dbB, fineTick_clock, debounce_active hr, digitIncrement_none]
    exact ⟨rfl, rfl⟩
  · rw [fineTick_dbB, fineTick_clock, debounce_release hp hh]
    exact ⟨rfl, rfl⟩

end Sys2Proof.Machine
end

section
/-!
SUPPORT. The mode over a step of an input word without RST (R106, R111, R112).
-/
namespace Sys2Proof.Machine

theorem step_of_input_not_rst {s t : State} {w : InputWord} (hw : (fetch s).1 = .input w) (hr : (portsOf w).rst = false)
    (h : step s = .next t) : ∃ u, t = userStep (portsOf w) (sampled s) u := by
  rw [step_of_fetch_input hw] at h
  rcases wholeCycle_eq_next h with ⟨hrst, -⟩ | ⟨-, u, -, ht⟩
  · exact absurd hrst (by simp [hr])
  · exact ⟨u, ht⟩

section
variable {s t : State} {w : InputWord} (hw : (fetch s).1 = .input w) (hr : (portsOf w).rst = false)
  (h : step s = .next t)
include hw hr h

theorem step_nav_of_not_fine (hf : (portsOf w).fine = false) : t.nav = s.nav := by
  obtain ⟨u, rfl⟩ := step_of_input_not_rst hw hr h
  simp [hf]

theorem step_nav_of_fine (hf : (portsOf w).fine = true) :
    t.nav = navigate s.nav (debounce s.params.heldW s.dbA (portsOf w).btnAN).2 := by
  obtain ⟨u, rfl⟩ := step_of_input_not_rst hw hr h
  simp [hf]

theorem step_dbA_of_fine (hf : (portsOf w).fine = true) :
    t.dbA = (debounce s.params.heldW s.dbA (portsOf w).btnAN).1 := by
  obtain ⟨u, rfl⟩ := step_of_input_not_rst hw hr h
  simp [hf]

end

/-- Settles O18: without FINE the navigation stands; with it ShowClock runs its timeout, and the other modes classify a
completed cycle by R111's ranges. -/
theorem modeTransitionRelation : Obligations.ModeTransitionRelation := by
  intro s t w rest hs hr h
  have hw := fetch_fst_of_cons hs
  refine ⟨step_nav_of_not_fine hw hr h, fun hf => ?_⟩
  rw [step_nav_of_fine hw hr h hf]
  constructor
  · intro hm
    rw [navigate_of_showClock hm, idleTimeout_eq, hm]
    exact apply_ite Navigation.mode _ _ _
  · intro hm
    rw [navigate_of_ne_showClock hm]
    cases (debounce s.params.heldW s.dbA (portsOf w).btnAN).2 with
    | none => rfl
    | some d =>
      change classify s.nav.mode d = _
      cases s.nav.mode with
      | showTemperature => exact classify_showTemperature d
      | showClock => rfl
      | editHours => exact classify_editHours d
      | editMinutes => exact classify_editMinutes d

end Sys2Proof.Machine
end

section
/-!
SUPPORT. Runs counted by their fine ticks: ShowClock's timeout (R113), and a press of button A (R102, R104 to R106).
-/
namespace Sys2Proof.Machine

/-! ### Counted runs -/

theorem countFine_cons (w : InputWord) (ws : List InputWord) :
    countFine (w :: ws) = (portsOf w).fine.toNat + countFine ws := by
  cases hf : (portsOf w).fine <;> simp [countFine, hf, Nat.add_comm]

/-- What holds of a number of fine ticks, does not depend on the script, and goes on through every step of an allowed word with
that word's fine tick counted, holds at the end of every run of allowed words with all of its fine ticks counted. -/
theorem runWords_counts {P : Nat → State → Prop} {allowed : InputWord → Prop}
    (hports : ∀ n s ws, P n s → P n (onPorts ws s))
    (hstep : ∀ n s w, P n s → allowed w → (fetch s).1 = .input w →
      ∃ t, step s = .next t ∧ P (n + (portsOf w).fine.toNat) t)
    {n : Nat} {s : State} {ws : List InputWord} (hs : P n s) (hws : ∀ w ∈ ws, allowed w) (vs : List InputWord) :
    ∃ t, runWords (ws ++ vs) s = runWords vs t ∧ P (n + countFine ws) t := by
  induction ws generalizing n s with
  | nil => exact ⟨s, rfl, hs⟩
  | cons w ws ih =>
    obtain ⟨hw, hrest⟩ := List.forall_mem_cons.mp hws
    obtain ⟨t, ht, hPt⟩ := hstep n _ w (hports n s (w :: (ws ++ vs)) hs) hw (fetch_onPorts_cons w (ws ++ vs) s)
    rw [List.cons_append, runWords_cons ht, countFine_cons, ← Nat.add_assoc]
    exact ih hPt hrest

/-! ### ShowClock's timeout (R112, R113) -/

/-- Where the navigation stands `n` fine ticks after it has entered ShowClock; after the 300th it is free. -/
def ShowClockSince (n : Nat) (v : Navigation) : Prop :=
  (n < 300 → v.mode = .showClock ∧ v.idleCnt.val = n) ∧ (n = 300 → v.mode = .showTemperature ∧ v.idleCnt.val = 0)

theorem showClockSince_zero {v : Navigation} (hm : v.mode = .showClock) (hc : v.idleCnt = 0) : ShowClockSince 0 v :=
  ⟨fun _ => ⟨hm, congrArg Fin.val hc⟩, nofun⟩

/-- One fine tick of the mode FSM is one tick of the timeout, whatever button A completes. -/
theorem navigate_showClockSince {n : Nat} {v : Navigation} (h : ShowClockSince n v) (d : Option Nat) :
    ShowClockSince (n + 1) (navigate v d) := by
  by_cases hn : n < 300
  · obtain ⟨hm, hc⟩ := h.1 hn
    rw [navigate_of_showClock hm, idleTimeout_eq, hc]
    split
    · next h300 => exact ⟨fun hlt => absurd h300 hlt.ne, fun _ => ⟨rfl, rfl⟩⟩
    · next h300 =>
      have hval : (v.idleCnt + 1).val = n + 1 := by
        rw [Fin.val_add, hc]
        exact Nat.mod_eq_of_lt (by omega)
      exact ⟨fun _ => ⟨hm, hval⟩, fun heq => absurd heq h300⟩
  · exact ⟨fun hlt => by omega, fun heq => by omega⟩

theorem step_showClockSince {n : Nat} {s t : State} {w : InputWord} (h : ShowClockSince n s.nav)
    (hw : (fetch s).1 = .input w) (hr : (portsOf w).rst = false) (hstep : step s = .next t) :
    ShowClockSince (n + (portsOf w).fine.toNat) t.nav := by
  cases hf : (portsOf w).fine with
  | false => rwa [step_nav_of_not_fine hw hr hstep hf]
  | true =>
    rw [step_nav_of_fine hw hr hstep hf]
    exact navigate_showClockSince h _

/-- The release of a press of 1..90 ticks in ShowTemperature enters ShowClock with a zero count (R104, R113). -/
theorem step_enters_showClock {s t : State} {w : InputWord} (h : s.Inv) (hm : s.nav.mode = .showTemperature)
    (hw : (fetch s).1 = .input w) (hr : (portsOf w).rst = false) (hf : (portsOf w).fine = true)
    (hA : (portsOf w).btnAN = true) (hlo : 1 ≤ s.dbA.held) (hhi : s.dbA.held ≤ 90) (hstep : step s = .next t) :
    ShowClockSince 0 t.nav := by
  obtain ⟨-, hpressed, -⟩ := h.buttonA
  have hne : s.nav.mode ≠ .showClock := by simp [hm]
  rw [step_nav_of_fine hw hr hstep hf, hA, debounce_release (hpressed.mpr hlo) hlo, navigate_of_ne_showClock hne, hm]
  exact showClockSince_zero ((classify_showTemperature _).trans (if_pos ⟨hlo, hhi⟩)) (h.navigation hne)

/-- Settles O19: the release enters ShowClock, and every further step counts its fine tick toward the timeout. -/
theorem showClockExpiresAfterExactly300FineTicks : Obligations.ShowClockExpiresAfterExactly300FineTicks := by
  intro s w ws hs hm hr hf hA hlo hhi hws
  have hentry := onPorts_inv hs (w :: ws)
  obtain ⟨t₀, ht₀⟩ := step_completes_of_input hentry (fetch_onPorts_cons w ws s)
  have hzero := step_enters_showClock hentry hm (fetch_onPorts_cons w ws s) hr hf hA hlo hhi ht₀
  obtain ⟨t, ht, -, hsince⟩ := runWords_counts (P := fun n s => s.Inv ∧ ShowClockSince n s.nav)
    (allowed := fun v => (portsOf v).rst = false) (fun _ _ ws h => ⟨onPorts_inv h.1 ws, h.2⟩)
    (fun n s v ⟨hinv, hn⟩ hv hfetch =>
      have ⟨t, ht⟩ := step_completes_of_input hinv hfetch
      ⟨t, ht, step_inv hinv ht, step_showClockSince hn hfetch hv ht⟩)
    ⟨step_inv hentry ht₀, hzero⟩ hws []
  rw [List.append_nil] at ht
  rw [Nat.zero_add] at hsince
  exact ⟨onPorts [] t, by rw [runWords_cons ht₀, ht, runWords_nil], hsince⟩

/-! ### A press of button A (R101, R102, R104 to R106) -/

/-- The record of a button that has been pressed for `n` fine ticks; before the first it is clear. -/
def pressedFor (heldW n : Nat) : ButtonObservation :=
  { pressed := decide (1 ≤ n), released := false, held := min n (2 ^ heldW - 1) }

theorem pressedFor_zero (heldW : Nat) : pressedFor heldW 0 = ButtonObservation.clear := by
  simp [pressedFor, ButtonObservation.clear]

theorem debounce_pressedFor_low (heldW n : Nat) :
    debounce heldW (pressedFor heldW n) false = (pressedFor heldW (n + 1), none) := by
  rw [debounce_active rfl]
  simp only [pressedFor, satInc, Prod.mk.injEq, ButtonObservation.mk.injEq, and_true, true_and]
  exact ⟨(decide_eq_true (Nat.le_add_left 1 n)).symm, by omega⟩

theorem debounce_pressedFor_high {heldW n : Nat} (hw : 1 ≤ heldW) (hn : 1 ≤ n) :
    debounce heldW (pressedFor heldW n) true = (ButtonObservation.clear, some (min n (2 ^ heldW - 1))) := by
  have hmax : 2 ≤ 2 ^ heldW := Nat.le_self_pow (by omega) 2
  exact debounce_release (decide_eq_true hn) (le_min hn (by omega))

/-- No bound of the table lies past 300 (R7). -/
theorem classify_of_gt {d : Nat} (hd : 300 < d) (m : Mode) : classify m d = m := by
  cases m with
  | showTemperature => rw [classify_showTemperature, if_neg (by omega), if_neg (by omega)]
  | showClock => rfl
  | editHours => rw [classify_editHours, if_neg (by omega)]
  | editMinutes => rw [classify_editMinutes, if_neg (by omega)]

/-- R102 (d): the saturation value of a counter of at least 9 bits lies past every bound of the table. -/
theorem classify_saturated {heldW : Nat} (hw : 9 ≤ heldW) (m : Mode) (n : Nat) :
    classify m (min n (2 ^ heldW - 1)) = classify m n := by
  have hmax : 2 ^ 9 ≤ 2 ^ heldW := Nat.pow_le_pow_right (by decide) hw
  by_cases hn : n ≤ 2 ^ heldW - 1
  · rw [min_eq_left hn]
  · rw [classify_of_gt (by omega), classify_of_gt (by omega)]

/-- `n` fine ticks into a press of button A: the record counts them, and the navigation `v` has not moved. -/
def PressingA (v : Navigation) (n : Nat) (s : State) : Prop :=
  s.Inv ∧ s.nav = v ∧ s.dbA = pressedFor s.params.heldW n

theorem portsOf_fineLine (a b : Bool) :
    portsOf (lineWord [.fine a b]) = { quietPorts with fine := true, btnAN := a, btnBN := b } := portsOf_lineWord _

theorem fineLine_rst (a b : Bool) : (portsOf (lineWord [.fine a b])).rst = false :=
  congrArg InputPorts.rst (portsOf_fineLine a b)

theorem fineLine_fine (a b : Bool) : (portsOf (lineWord [.fine a b])).fine = true :=
  congrArg InputPorts.fine (portsOf_fineLine a b)

/-- A line that is one fine tick moves the navigation and button A's record by Debounce of A's level. -/
theorem step_fineLine {a b : Bool} {s t : State} (hw : (fetch s).1 = .input (lineWord [.fine a b])) (h : step s = .next t) :
    t.nav = navigate s.nav (debounce s.params.heldW s.dbA a).2 ∧ t.dbA = (debounce s.params.heldW s.dbA a).1 := by
  have hA : (portsOf (lineWord [.fine a b])).btnAN = a := congrArg InputPorts.btnAN (portsOf_fineLine a b)
  have hnav := step_nav_of_fine hw (fineLine_rst a b) h (fineLine_fine a b)
  have hdb := step_dbA_of_fine hw (fineLine_rst a b) h (fineLine_fine a b)
  rw [hA] at hnav hdb
  exact ⟨hnav, hdb⟩

/-- One more fine tick of the press. -/
theorem step_pressingA {v : Navigation} {n : Nat} {s : State} (h : PressingA v n s) (hv : v.mode ≠ .showClock)
    (hw : (fetch s).1 = .input (lineWord [.fine false true])) :
    ∃ t, step s = .next t ∧ PressingA v (n + 1) t := by
  obtain ⟨hinv, rfl, hdb⟩ := h
  obtain ⟨t, ht⟩ := step_completes_of_input hinv hw
  obtain ⟨hnav, hdb'⟩ := step_fineLine hw ht
  rw [hdb, debounce_pressedFor_low] at hnav hdb'
  refine ⟨t, ht, step_inv hinv ht, ?_, ?_⟩
  · rw [hnav, navigate_of_ne_showClock hv]
    rfl
  · rw [hdb', step_params ht]

/-- The active lines of `PRESS_A n` (R89). -/
theorem runWords_pressingA {v : Navigation} {s : State} (h : PressingA v 0 s) (hv : v.mode ≠ .showClock) (n : Nat)
    (ws : List InputWord) :
    ∃ u, runWords (List.replicate n (lineWord [.fine false true]) ++ ws) s = runWords ws u ∧ PressingA v n u := by
  have hcount : 0 + countFine (List.replicate n (lineWord [.fine false true])) = n := by
    simp [countFine, fineLine_fine]
  have hstep (n s w) (hs : PressingA v n s) (hline : w = lineWord [.fine false true]) (hw : (fetch s).1 = .input w) :
      ∃ t, step s = .next t ∧ PressingA v (n + (portsOf w).fine.toNat) t := by
    subst hline
    rw [fineLine_fine]
    exact step_pressingA hs hv hw
  have hrun := runWords_counts (fun _ _ ws ⟨hinv, hrest⟩ => ⟨onPorts_inv hinv ws, hrest⟩) hstep h
    (ws := List.replicate n _) (fun _ hw => List.eq_of_mem_replicate hw) ws
  rwa [hcount] at hrun

/-- The release of a press of `n` ticks classifies `n`. -/
theorem step_releaseA {v : Navigation} {n : Nat} {s : State} (h : PressingA v n s) (hv : v.mode ≠ .showClock)
    (hn : 1 ≤ n) (hw : (fetch s).1 = .input (lineWord [.fine true true])) :
    ∃ t, step s = .next t ∧ t.nav = { v with mode := classify v.mode n } ∧ t.dbA = ButtonObservation.clear := by
  obtain ⟨hinv, rfl, hdb⟩ := h
  obtain ⟨t, ht⟩ := step_completes_of_input hinv hw
  obtain ⟨hheldW, -, -⟩ := hinv.params
  obtain ⟨hnav, hdb'⟩ := step_fineLine hw ht
  rw [hdb, debounce_pressedFor_high (by omega) hn] at hnav hdb'
  refine ⟨t, ht, ?_, hdb'⟩
  rw [hnav, navigate_of_ne_showClock hv, ← classify_saturated hheldW _ n]
  rfl

/-- Settles O20: the active ticks are counted one by one, and the release classifies their number. -/
theorem pressAOfNTicksClassifiesAsN : Obligations.PressAOfNTicksClassifiesAsN := by
  intro s n hs hclear hm hn
  have hstart : PressingA s.nav 0 s := ⟨hs, rfl, by rw [hclear, pressedFor_zero]⟩
  obtain ⟨u, hu, hinv, hpressed⟩ := runWords_pressingA hstart hm n [lineWord [.fine true true]]
  have hlast : PressingA s.nav n (onPorts [lineWord [.fine true true]] u) := ⟨onPorts_inv hinv _, hpressed⟩
  obtain ⟨t, ht, hnav, hdb⟩ := step_releaseA hlast hm hn (fetch_onPorts_cons _ _ _)
  refine ⟨onPorts [] t, ?_, hnav.trans (congrArg (Navigation.mk _) (hs.navigation hm)), hdb⟩
  rw [pressA, List.map_append, List.map_replicate, List.map_singleton, hu, runWords_cons ht, runWords_nil]

end Sys2Proof.Machine
end

section
/-!
SUPPORT. The wall clock and the digit stage, field by field (R142 to R153). Every field of ClockTime counts modulo its own range,
which is addition in its type; so the carry chain and the increment are said with `+ 1`, and each wrap is proved once.
-/
namespace Sys2Proof.Machine

/-! ### A field that counts and wraps -/

theorem wrap_ofNat_eq_add_one {n : Nat} (i : Fin (n + 1)) :
    (if i.val = n then 0 else Fin.ofNat (n + 1) (i.val + 1)) = i + 1 := by
  split
  · next h => exact (Fin.last_add_one n).symm.trans (congrArg (· + 1) (Fin.ext h).symm)
  · exact Fin.ext (by simp [Fin.val_add])

theorem wrap_add_one_eq {n : Nat} (i : Fin (n + 1)) : (if i.val = n then 0 else i + 1) = i + 1 := by
  split
  · next h => exact (Fin.last_add_one n).symm.trans (congrArg (· + 1) (Fin.ext h).symm)
  · rfl

theorem val_add_one_eq_wrap {n : Nat} (i : Fin (n + 1)) : (i + 1).val = if i.val = n then 0 else i.val + 1 := by
  rw [Fin.val_add_one]
  exact if_congr Fin.ext_iff rfl rfl

/-! ### IncField (R145) and DigitIncrement (R143, R146) -/

theorem incField_hours (t : ClockTime) : incField t .hours = { t with hh := t.hh + 1 } :=
  congrArg (fun h => { t with hh := h }) (wrap_ofNat_eq_add_one t.hh)

theorem incField_minutes (t : ClockTime) : incField t .minutes = { t with mm := t.mm + 1 } :=
  congrArg (fun m => { t with mm := m }) (wrap_ofNat_eq_add_one t.mm)

theorem digitIncrement_some (m : Mode) (d : Nat) (t : ClockTime) :
    digitIncrement m (some d) t = if 1 ≤ d ∧ d ≤ 50 then (fieldOf m).elim t (incField t) else t := by
  cases m with
  | showTemperature | showClock => exact (ite_self t).symm
  | editHours | editMinutes => rfl

/-- Settles O26: outside B_INC nothing is done, and within it the mode names the field that counts one up and wraps. -/
theorem digitIncrementFollowsItsRule : Obligations.DigitIncrementFollowsItsRule := by
  refine fun m t => ⟨digitIncrement_none m t, fun d => (digitIncrement_some m d t).trans (if_congr Iff.rfl ?_ rfl)⟩
  cases m with
  | showTemperature | showClock => rfl
  | editHours => exact (incField_hours t).trans (by rw [wrap_add_one_eq t.hh])
  | editMinutes => exact (incField_minutes t).trans (by rw [wrap_add_one_eq t.mm])

@[simp] theorem digitIncrement_ss (m : Mode) (d : Option Nat) (t : ClockTime) : (digitIncrement m d t).ss = t.ss := by
  cases d with
  | none => rfl
  | some d => rw [digitIncrement_some]; split <;> cases m <;> rfl

theorem digitIncrement_some_hh (m : Mode) (d : Nat) (t : ClockTime) :
    (digitIncrement m (some d) t).hh = if m = .editHours ∧ 1 ≤ d ∧ d ≤ 50 then t.hh + 1 else t.hh := by
  rw [digitIncrement_some]
  cases m with
  | editHours => simp only [fieldOf, Option.elim_some, incField_hours, apply_ite ClockTime.hh, true_and]
  | showTemperature | showClock | editMinutes => split <;> rfl

theorem digitIncrement_some_mm (m : Mode) (d : Nat) (t : ClockTime) :
    (digitIncrement m (some d) t).mm = if m = .editMinutes ∧ 1 ≤ d ∧ d ≤ 50 then t.mm + 1 else t.mm := by
  rw [digitIncrement_some]
  cases m with
  | editMinutes => simp only [fieldOf, Option.elim_some, incField_minutes, apply_ite ClockTime.mm, true_and]
  | showTemperature | showClock | editHours => split <;> rfl

theorem digitIncrement_hh_of_ne {m : Mode} (hm : m ≠ .editHours) (d : Option Nat) (t : ClockTime) :
    (digitIncrement m d t).hh = t.hh := by
  cases d with
  | none => rfl
  | some d => rw [digitIncrement_some_hh, if_neg fun h => hm h.1]

theorem digitIncrement_mm_of_ne {m : Mode} (hm : m ≠ .editMinutes) (d : Option Nat) (t : ClockTime) :
    (digitIncrement m d t).mm = t.mm := by
  cases d with
  | none => rfl
  | some d => rw [digitIncrement_some_mm, if_neg fun h => hm h.1]

/-- Settles O22: the navigation and button A's record are written from values that hold nothing of button B, and the digit stage
touches no field but the one its mode edits. -/
theorem buttonBNeverChangesTheMode : Obligations.ButtonBNeverChangesTheMode := fun s pa pb pb' db =>
  ⟨fineTick pa pb s, fineTick pa pb' { s with dbB := db }, exec_fineTick .., exec_fineTick ..,
    by rw [fineTick_nav, fineTick_nav], by rw [fineTick_dbA, fineTick_dbA], digitIncrement_ss ..,
    fun hm => digitIncrement_hh_of_ne hm .., fun hm => digitIncrement_mm_of_ne hm ..⟩

/-! ### The carry chain (R150) -/

theorem advance_eq (t : ClockTime) :
    advance t =
      { hh := if t.ss.val = 59 ∧ t.mm.val = 59 then t.hh + 1 else t.hh
        mm := if t.ss.val = 59 then t.mm + 1 else t.mm
        ss := t.ss + 1 } := by
  simp only [← wrap_ofNat_eq_add_one, advance, Nat.reduceEqDiff]
  by_cases hs : t.ss.val = 59
  · by_cases hm : t.mm.val = 59
    · by_cases hh : t.hh.val = 23
      · simp only [hs, hm, hh, if_true, and_self]
      · simp only [hs, hm, hh, if_true, if_false, and_self]
    · simp only [hs, hm, if_true, if_false, and_false]
  · simp only [hs, if_false, false_and]

theorem val_advance_ss (t : ClockTime) : (advance t).ss.val = if t.ss.val = 59 then 0 else t.ss.val + 1 := by
  rw [advance_eq, val_add_one_eq_wrap]

theorem val_advance_mm (t : ClockTime) : (advance t).mm.val =
    if t.ss.val = 59 then (if t.mm.val = 59 then 0 else t.mm.val + 1) else t.mm.val := by
  rw [advance_eq, apply_ite Fin.val, val_add_one_eq_wrap]

theorem val_advance_hh (t : ClockTime) : (advance t).hh.val =
    if t.ss.val = 59 ∧ t.mm.val = 59 then (if t.hh.val = 23 then 0 else t.hh.val + 1) else t.hh.val := by
  rw [advance_eq, apply_ite Fin.val, val_add_one_eq_wrap]

/-- Settles O24: the second's tick is Advance on the clock, whose fields follow the carry chain. -/
theorem secTickAdvancesTheClock : Obligations.SecTickAdvancesTheClock := fun s =>
  ⟨_, exec_secTick s, rfl, val_advance_ss s.clock, val_advance_mm s.clock, val_advance_hh s.clock⟩

/-- Settles O25: each carry trades 60 of one field for 1 of the next, and the last one wraps the day. -/
theorem clockCountsSecondsModuloADay : Obligations.ClockCountsSecondsModuloADay := by
  intro t
  have hhh := t.hh.isLt
  have hmm := t.mm.isLt
  have hss := t.ss.isLt
  rw [val_advance_hh, val_advance_mm, val_advance_ss]
  by_cases hs : t.ss.val = 59
  · by_cases hm : t.mm.val = 59
    · by_cases hh : t.hh.val = 23
      · simp only [hs, hm, hh, if_true, and_self]
      · simp only [hs, hm, hh, if_true, if_false, and_self]
        omega
    · simp only [hs, hm, if_true, if_false, and_false]
      omega
  · simp only [hs, if_false, false_and]
    omega

end Sys2Proof.Machine
end

section
/-!
SUPPORT. ClockTime over a step of an input word without RST (R152), and a press of button B (R141 to R148).
-/
namespace Sys2Proof.Machine

section
variable {s t : State} {w : InputWord} (hw : (fetch s).1 = .input w) (hr : (portsOf w).rst = false)
  (h : step s = .next t)
include hw hr h

theorem step_clock : t.clock = clockStep (portsOf w) s := by
  obtain ⟨u, rfl⟩ := step_of_input_not_rst hw hr h
  simp [clockStep]

theorem step_dbB_of_fine (hf : (portsOf w).fine = true) :
    t.dbB = (debounce s.params.heldW s.dbB (portsOf w).btnBN).1 := by
  obtain ⟨u, rfl⟩ := step_of_input_not_rst hw hr h
  simp [hf]

end

/-- Settles O27: the cycle's one write of ClockTime is ClockStep of the pre-state. -/
theorem clockTimeComposesAdvanceThenDigit : Obligations.ClockTimeComposesAdvanceThenDigit :=
  fun _ _ _ _ hs hr h => step_clock (fetch_fst_of_cons hs) hr h

/-! ### A press of button B -/

theorem clockStep_of_fine {p : InputPorts} (hs : p.sec = false) (hf : p.fine = true) (s : State) :
    clockStep p s = digitIncrement s.nav.mode (debounce s.params.heldW s.dbB p.btnBN).2 s.clock := by
  simp [clockStep, hs, hf]

/-- A line that is one fine tick moves button B's record by Debounce of B's level, and the clock by the digit stage. -/
theorem step_fineLine_buttonB {a b : Bool} {s t : State} (hw : (fetch s).1 = .input (lineWord [.fine a b]))
    (h : step s = .next t) :
    t.dbB = (debounce s.params.heldW s.dbB b).1 ∧
      t.clock = digitIncrement s.nav.mode (debounce s.params.heldW s.dbB b).2 s.clock := by
  have hB : (portsOf (lineWord [.fine a b])).btnBN = b := congrArg InputPorts.btnBN (portsOf_fineLine a b)
  have hsec : (portsOf (lineWord [.fine a b])).sec = false := congrArg InputPorts.sec (portsOf_fineLine a b)
  have hdb := step_dbB_of_fine hw (fineLine_rst a b) h (fineLine_fine a b)
  have hclock := step_clock hw (fineLine_rst a b) h
  rw [clockStep_of_fine hsec (fineLine_fine a b), hB] at hclock
  rw [hB] at hdb
  exact ⟨hdb, hclock⟩

/-- What does not depend on the script and goes on, with its count one up, through a fine tick of these levels, holds after `n`
such fine ticks with `n` counted. -/
theorem runWords_fineLines {P : Nat → State → Prop} {a b : Bool} (hports : ∀ n s ws, P n s → P n (onPorts ws s))
    (hstep : ∀ n s, P n s → (fetch s).1 = .input (lineWord [.fine a b]) → ∃ t, step s = .next t ∧ P (n + 1) t)
    {s : State} (hs : P 0 s) (n : Nat) (ws : List InputWord) :
    ∃ u, runWords (List.replicate n (lineWord [.fine a b]) ++ ws) s = runWords ws u ∧ P n u := by
  have hcount : 0 + countFine (List.replicate n (lineWord [.fine a b])) = n := by simp [countFine, fineLine_fine]
  have hrun := runWords_counts (allowed := (· = lineWord [.fine a b])) hports
    (fun n s w hn hline hw => by
      subst hline
      rw [fineLine_fine]
      exact hstep n s hn hw)
    hs (ws := List.replicate n _) (fun _ hw => List.eq_of_mem_replicate hw) ws
  rwa [hcount] at hrun

/-- With button A up and its record clear, a fine tick outside ShowClock leaves the navigation and A's record as they are. -/
theorem step_fineLine_aUp {b : Bool} {s t : State} (hA : s.dbA = ButtonObservation.clear) (hm : s.nav.mode ≠ .showClock)
    (hw : (fetch s).1 = .input (lineWord [.fine true b])) (h : step s = .next t) :
    t.nav = s.nav ∧ t.dbA = ButtonObservation.clear := by
  obtain ⟨hnav, hdbA⟩ := step_fineLine hw h
  rw [hA, debounce_clear] at hnav hdbA
  exact ⟨hnav.trans (navigate_of_ne_showClock hm none), hdbA⟩

/-- R102 (d) for B_INC: the saturation value of a counter of at least 9 bits lies past its bound. -/
theorem digitIncrement_saturated {heldW : Nat} (hw : 9 ≤ heldW) (m : Mode) (n : Nat) (t : ClockTime) :
    digitIncrement m (some (min n (2 ^ heldW - 1))) t = digitIncrement m (some n) t := by
  have hmax : 2 ^ 9 ≤ 2 ^ heldW := Nat.pow_le_pow_right (by decide) hw
  rw [digitIncrement_some, digitIncrement_some]
  exact if_congr (by omega) rfl rfl

/-- `n` fine ticks into a press of button B, button A being up: the record counts them, and neither the navigation `v` nor the
time `c` has moved. -/
def PressingB (v : Navigation) (c : ClockTime) (n : Nat) (s : State) : Prop :=
  s.Inv ∧ s.nav = v ∧ s.clock = c ∧ s.dbA = ButtonObservation.clear ∧ s.dbB = pressedFor s.params.heldW n

section
variable {v : Navigation} {c : ClockTime} (hv : v.mode ≠ .showClock)
include hv

/-- One more fine tick of the press. -/
theorem step_pressingB {n : Nat} {s : State} (h : PressingB v c n s)
    (hw : (fetch s).1 = .input (lineWord [.fine true false])) :
    ∃ t, step s = .next t ∧ PressingB v c (n + 1) t := by
  obtain ⟨hinv, rfl, rfl, hA, hB⟩ := h
  obtain ⟨t, ht⟩ := step_completes_of_input hinv hw
  obtain ⟨hnav, hA'⟩ := step_fineLine_aUp hA hv hw ht
  obtain ⟨hB', hclock⟩ := step_fineLine_buttonB hw ht
  rw [hB, debounce_pressedFor_low] at hB' hclock
  exact ⟨t, ht, step_inv hinv ht, hnav, hclock, hA', by rw [hB', step_params ht]⟩

/-- The release of a press of `n` ticks runs the digit stage for `n`. -/
theorem step_releaseB {n : Nat} {s : State} (h : PressingB v c n s) (hn : 1 ≤ n)
    (hw : (fetch s).1 = .input (lineWord [.fine true true])) :
    ∃ t, step s = .next t ∧ t.nav = v ∧ t.dbB = ButtonObservation.clear ∧
      t.clock = digitIncrement v.mode (some n) c := by
  obtain ⟨hinv, rfl, rfl, hA, hB⟩ := h
  obtain ⟨t, ht⟩ := step_completes_of_input hinv hw
  obtain ⟨hheldW, -, -⟩ := hinv.params
  obtain ⟨hnav, -⟩ := step_fineLine_aUp hA hv hw ht
  obtain ⟨hB', hclock⟩ := step_fineLine_buttonB hw ht
  rw [hB, debounce_pressedFor_high (by omega) hn] at hB' hclock
  exact ⟨t, ht, hnav, hB', hclock.trans (digitIncrement_saturated hheldW ..)⟩

end

/-- `PRESS_B n` (R89) is one digit stage for the duration `n`. -/
theorem runWords_pressB {s : State} {n : Nat} (hs : s.Inv) (hA : s.dbA = ButtonObservation.clear)
    (hB : s.dbB = ButtonObservation.clear) (hm : s.nav.mode ≠ .showClock) (hn : 1 ≤ n) :
    ∃ t, runWords ((pressB n).map lineWord) s = .next t ∧ t.nav = s.nav ∧ t.dbB = ButtonObservation.clear ∧
      t.clock = digitIncrement s.nav.mode (some n) s.clock := by
  have hstart : PressingB s.nav s.clock 0 s := ⟨hs, rfl, rfl, hA, by rw [hB, pressedFor_zero]⟩
  obtain ⟨u, hu, hinv, hpressed⟩ := runWords_fineLines (fun _ _ ws ⟨hinv, hrest⟩ => ⟨onPorts_inv hinv ws, hrest⟩)
    (fun _ _ => step_pressingB hm) hstart n [lineWord [.fine true true]]
  have hlast : PressingB s.nav s.clock n (onPorts [lineWord [.fine true true]] u) := ⟨onPorts_inv hinv _, hpressed⟩
  obtain ⟨t, ht, hend⟩ := step_releaseB hm hlast hn (fetch_onPorts_cons _ _ _)
  refine ⟨onPorts [] t, ?_, hend⟩
  rw [pressB, List.map_append, List.map_replicate, List.map_singleton, hu, runWords_cons ht, runWords_nil]

/-- Settles O21: the press runs the digit stage once, which adds one to the field its mode edits. -/
theorem pressBOfNTicksIncrementsOnce : Obligations.PressBOfNTicksIncrementsOnce := by
  intro s n hs hA hB hm hn
  obtain ⟨t, ht, hnav, hdbB, hclock⟩ := runWords_pressB hs hA hB hm hn
  refine ⟨t, ht, hnav, hdbB, ?_, ?_, ?_⟩
  · rw [hclock, digitIncrement_ss]
  · rw [hclock, digitIncrement_some_hh, apply_ite Fin.val, Fin.val_add]
    exact if_congr (by simp only [hn, true_and]) rfl rfl
  · rw [hclock, digitIncrement_some_mm, apply_ite Fin.val, Fin.val_add]
    exact if_congr (by simp only [hn, true_and]) rfl rfl

end Sys2Proof.Machine
end

section
/-!
SUPPORT. The sensor protocol engine event by event: what each bus completion and coarse tick does (R174 to R186), and the order
of the engine's tests with the arrows its events move along (R171, R188).
-/
namespace Sys2Proof.Machine

/-! ### The dispatch order and the arrows (R171, R188) -/

/-- R188: the eight arrows of the engine's table, SRST and the NACK apart. -/
def engineArrows : List (ProtocolState × ProtocolState) :=
  [ (.readCalibration, .writeCalibration),
    (.writeCalibration, .configFinished),
    (.configFinished, .adcStatusConfig),
    (.adcStatusConfig, .adcStatus),
    (.adcStatus, .adcWaitForMeasureFinish),
    (.adcWaitForMeasureFinish, .adcStartReading),
    (.adcStartReading, .adcReadingInProgress),
    (.adcReadingInProgress, .configFinished) ]

/-- An arrow from a known protocol state, found in the table by evaluation. -/
theorem mem_engineArrows {s t : State} {q : ProtocolState} (hps : s.session.ps = q)
    (h : engineArrows.elem (q, t.session.ps) = true) : (s.session.ps, t.session.ps) ∈ engineArrows := by
  rw [hps]
  exact List.elem_iff.mp h

/-- Each rule of a bus completion keeps the protocol state or moves along its arrow. -/
theorem busMove_ps_follows_arrows {rdata : Byte} {s t : State} (h : BusMove rdata s t) :
    t.session.ps = s.session.ps ∨ (s.session.ps, t.session.ps) ∈ engineArrows := by
  cases h with
  | startBurst hps | calibrationByte hps | statusRead hps | firstRawByte hps => exact .inl hps.symm
  | lastCalibrationByte hps | controlValue hps | statusPointer hps | rawBurst hps | lastRawByte hps =>
    exact .inr (mem_engineArrows hps rfl)
  | statusTest hps =>
    unfold testStatus
    split
    · exact .inr (mem_engineArrows hps rfl)
    · exact .inl hps.symm
  | ignored => exact .inl rfl

/-- R171: SRST wins over every other event. -/
theorem sensorStep_of_srst {p : InputPorts} (h : p.srst = true) (s : State) :
    sensorStep p s = .next (engineReset s) := by
  rw [sensorStep, if_pos h]

/-- R171, R172 (c): a NACK without SRST leaves the engine in Error, whatever it finds it in. -/
theorem sensorStep_ps_of_nack {p : InputPorts} {s t : State} (hsrst : p.srst = false) (hbus : p.busEvt = true)
    (hnack : p.busNack = true) (h : sensorStep p s = .next t) : t.session.ps = .error := by
  by_cases he : s.session.ps = .error
  · rw [sensorStep_of_error he, hsrst] at h
    cases h
    exact he
  · have hraise : sensorStep p s = .next (raiseBusNack s) := by simp [sensorStep, hsrst, hbus, hnack, he]
    rw [hraise] at h
    cases h
    rfl

/-- Without SRST and without a NACK the engine stays put or moves along one arrow. -/
theorem engineMove_ps_follows_arrows {p : InputPorts} {s t : State} (hsrst : p.srst = false)
    (hnack : p.busEvt = true → p.busNack = false) (h : EngineMove p s t) :
    t.session.ps = s.session.ps ∨ (s.session.ps, t.session.ps) ∈ engineArrows := by
  cases h with
  | reset hreset => rw [hsrst] at hreset; cases hreset
  | nack _ hbus hraised => rw [hnack hbus] at hraised; cases hraised
  | bus _ _ _ _ hmove => exact busMove_ps_follows_arrows hmove
  | calibrate _ _ hps | acquire _ _ hps => exact .inr (mem_engineArrows hps rfl)
  | quiet => exact .inl rfl

/-- The session after an input word's step without RST is the one the engine's arm writes. -/
theorem step_session_of_input {s t : State} {w : InputWord} (hw : (fetch s).1 = .input w) (hr : (portsOf w).rst = false)
    (h : step s = .next t) : ∃ u, sensorStep (portsOf w) (sampled s) = .next u ∧ t.session = u.session := by
  rw [step_of_fetch_input hw, wholeCycle_of_not_rst hr] at h
  obtain ⟨u, hu, ht⟩ := andThen_eq_next h
  cases ht
  exact ⟨u, hu, rfl⟩

/-- Settles O36: the session is the engine's arm's, which tests SRST, then the NACK, and else makes one of its moves. -/
theorem engineTransitionsFollowTheTable : Obligations.EngineTransitionsFollowTheTable := by
  intro s t w rest hs hr h
  obtain ⟨u, hu, hsession⟩ := step_session_of_input (fetch_fst_of_cons hs) hr h
  rw [hsession, ← sampled_session s, ← sampled_cal s]
  refine ⟨fun hsrst => ?_, fun hsrst hbus hnack => sensorStep_ps_of_nack hsrst hbus hnack hu,
    fun hsrst hnack => engineMove_ps_follows_arrows hsrst hnack (sensorStep_move hu)⟩
  rw [sensorStep_of_srst hsrst] at hu
  cases hu
  rfl

/-! ### Coarse ticks (R174, R179) -/

/-- Settles O28: the dispatch starts a calibration read or an acquisition, and R172 (a) drops the tick elsewhere. -/
theorem coarseTickCompletes : Obligations.CoarseTickCompletes := by
  intro s
  rw [exec_coarseTick]
  refine ⟨fun hps => ?_, fun hps => ?_, fun hidle => congrArg _ (coarseStep_of_not_isIdle hidle)⟩
  · rw [coarseStep, hps]
    rfl
  · rw [coarseStep, hps]
    rfl

/-! ### The received byte's cell (R50, R176, R185) -/

/-- The stored byte's cell, where `byteIndex` is known. -/
theorem storeByte_of_eq {s : State} {i : Nat} (h : s.session.byteIndex.val = i) (hi : i < 6) (rdata : Byte) :
    storeByte rdata s (h ▸ hi) =
      { s with session := { s.session with scratch := s.session.scratch.set i rdata hi } } := by
  subst h
  rfl

/-- A session write that repeats `ps` writes the counters alone. -/
theorem setSession_of_ps {s : State} {q : ProtocolState} (h : s.session.ps = q) (i b : Fin 7) :
    setSession q i b s = { s with session := { s.session with byteIndex := i, burstCnt := b } } := by
  subst h
  rfl

/-- A counter below its maximum counts up without a wrap. -/
theorem mk_val_add_one {n : Nat} (i : Fin (n + 1)) (h : i.val + 1 < n + 1) : (⟨i.val + 1, h⟩ : Fin (n + 1)) = i + 1 :=
  Fin.ext (Fin.val_add_one_of_lt' h).symm

/-! ### The calibration burst (R175 to R177) -/

theorem busStep_of_pointerWritten {s : State} (hps : s.session.ps = .writeCalibration) (hb : s.session.burstCnt = 0)
    (rdata : Byte) : busStep rdata s = .next (startCalibrationBurst s) := by
  simp [busStep, hps, hb]

/-- R176: one of the first five bytes is stored, counted, and answered with the command for the next. -/
theorem busStep_of_calibrationByte {s : State} (hps : s.session.ps = .writeCalibration)
    (hb : s.session.burstCnt.val ≠ 0) (hi : s.session.byteIndex.val < 5) (hc : s.session.burstCnt.val < 6) (rdata : Byte) :
    busStep rdata s = .next (issue (if s.session.byteIndex.val + 1 = 5 then .recvFinish else .recvCont) 0#8
      (setSession .writeCalibration (s.session.byteIndex + 1) (s.session.burstCnt + 1)
        (storeByte rdata s (by omega)))) := by
  rw [busStep_of_writeCalibration hps hb, collectCalibrationByte_of_lt hi, nextCalibrationByte,
    dif_pos ⟨show s.session.byteIndex.val + 1 < 7 by omega, show s.session.burstCnt.val + 1 < 7 by omega⟩,
    mk_val_add_one, mk_val_add_one]
  rfl

/-- R177: the sixth byte completes the calibration. -/
theorem busStep_of_lastCalibrationByte {s : State} (hps : s.session.ps = .writeCalibration)
    (hb : s.session.burstCnt.val ≠ 0) (hi : s.session.byteIndex.val = 5) (rdata : Byte) :
    busStep rdata s = .next (calibrationDone (storeByte rdata s (by omega))) := by
  rw [busStep_of_writeCalibration hps hb, collectCalibrationByte, writeScratch_of_lt (by omega), andThen_next]
  exact if_pos (congrArg (· + 1) hi)

/-- R80: the constants of the five stored bytes and the sixth received. -/
theorem calAssemble_set_last (v : Vector Byte 6) (b : Byte) :
    calAssemble (v.set 5 b) = (v[1] ++ v[0], v[3] ++ v[2], b ++ v[4]) := by
  simp [calAssemble, littleEndianPair]

/-- Settles O29: the burst's start, a byte that is not the sixth, and the sixth. -/
theorem busOkReadsTheCalibration : Obligations.BusOkReadsTheCalibration := by
  intro s rdata drdy stop hps
  rw [exec_busOk]
  refine ⟨fun hb => ?_, fun i hi h4 hb1 hb5 => ?_, fun hi hb => ?_⟩
  · rw [busStep_of_pointerWritten hps hb]
    rfl
  · have hkind : (if s.session.byteIndex.val + 1 = 5 then CommandKind.recvFinish else .recvCont).bits =
        if i.val = 4 then 0b111#3 else 0b110#3 := by
      rw [apply_ite CommandKind.bits]
      exact if_congr (by omega) rfl rfl
    rw [busStep_of_calibrationByte hps (by omega) (by omega) (by omega), storeByte_of_eq hi i.isLt, issue, putCommand, hkind]
    rfl
  · rw [busStep_of_lastCalibrationByte hps (by omega) hi, storeByte_of_eq hi (by omega), calibrationDone,
      calAssemble_set_last]
    rfl

/-! ### The acquisition's commands (R180 to R184) -/

theorem busStep_of_statusPointerWritten {s : State} (hps : s.session.ps = .adcWaitForMeasureFinish)
    (hb : s.session.burstCnt = 0) (rdata : Byte) : busStep rdata s = .next (readStatus s) := by
  simp [busStep, hps, hb]

theorem busStep_of_statusRead {s : State} (hps : s.session.ps = .adcWaitForMeasureFinish)
    (hb : s.session.burstCnt = 1) (rdata : Byte) : busStep rdata s = .next (testStatus rdata s) := by
  simp [busStep, hps, hb]

/-- Settles O30: one rule per state, and in AdcWaitForMeasureFinish one per completed command. -/
theorem busOkRunsTheAcquisitionCommands : Obligations.BusOkRunsTheAcquisitionCommands := by
  intro s rdata drdy stop
  rw [exec_busOk]
  refine ⟨fun hps => ?_, fun hps => ?_, fun hps hb => ?_, fun hps hb => ?_, fun hps => ?_⟩
  · rw [busStep, hps]
    rfl
  · rw [busStep, hps]
    rfl
  · rw [busStep_of_statusPointerWritten hps hb, readStatus, setSession_of_ps hps]
    rfl
  · rw [busStep_of_statusRead hps hb, testStatus, pointAtStatus, setSession_of_ps hps]
    rfl
  · rw [busStep, hps]
    rfl

/-! ### The raw bytes (R185) -/

theorem busStep_of_adcReadingInProgress {s : State} (hps : s.session.ps = .adcReadingInProgress)
    (hi : s.session.byteIndex.val < 6) (rdata : Byte) :
    busStep rdata s = .next (if s.session.byteIndex.val = 0 then nextRawByte (storeByte rdata s hi)
      else finishAcquisition (storeByte rdata s hi)) := by
  rw [busStep, hps]
  dsimp only
  rw [collectRawByte, writeScratch_of_lt hi, andThen_next]
  rfl

/-- R81: the raw code of the stored first byte and the second received. -/
theorem rawAssemble_set_last (v : Vector Byte 6) (b : Byte) : rawAssemble (v.set 1 b) = v[0] ++ b ++ 0#4 := by
  simp [rawAssemble]

/-- Settles O31: the two raw bytes, and R172 (b) where no bus event is waited for. -/
theorem busOkReadsTheTemperature : Obligations.BusOkReadsTheTemperature := by
  intro s rdata drdy stop
  rw [exec_busOk]
  refine ⟨fun hps hi => ?_, fun hps hi => ?_, fun hwait => busStep_of_not_isWaiting hwait rdata⟩
  · have h0 : s.session.byteIndex.val = 0 := congrArg Fin.val hi
    rw [busStep_of_adcReadingInProgress hps (by omega), if_pos h0, storeByte_of_eq h0 (by omega)]
    rfl
  · have h1 : s.session.byteIndex.val = 1 := congrArg Fin.val hi
    rw [busStep_of_adcReadingInProgress hps (by omega), if_neg (by omega), storeByte_of_eq h1 (by omega),
      finishAcquisition, rawAssemble_set_last]
    rfl

/-! ### The ready test (R186) -/

theorem ready_of_whenSet {p : Params} (h : p.readyWhenSet = true) (b : Byte) :
    ready p b = true ↔ b &&& p.readyMask ≠ 0#8 := by
  rw [ready, if_pos h, bne_iff_ne]

theorem ready_of_whenClear {p : Params} (h : p.readyWhenSet = false) (b : Byte) :
    ready p b = true ↔ b &&& p.readyMask = 0#8 := by
  rw [ready, if_neg (Bool.eq_false_iff.mp h), beq_iff_eq]

/-- Settles O41: the two polarities of the test, and R8's default pair. -/
theorem readyTestFollowsItsParameters : Obligations.ReadyTestFollowsItsParameters :=
  ⟨⟨rfl, rfl⟩, fun _ b => ⟨fun h => ready_of_whenSet h b, fun h => ready_of_whenClear h b⟩⟩

end Sys2Proof.Machine
end

section
/-!
SUPPORT. The compensation's arithmetic (R210 to R212): its formula, the bounds of every intermediate, and the distance from the
source's real-valued formula. The raw code is 16 times the two received bytes, so its own two shifts are exact.
-/
namespace Sys2Proof.Machine

/-! ### The formula and the clamp (R210) -/

theorem clamp_eq_max_min {lo hi : Int} (h : lo ≤ hi) (v : Int) : clamp v lo hi = max lo (min hi v) := by
  unfold clamp
  split_ifs <;> omega

/-- Settles O49: the shifts are floor divisions, and the clamp a minimum under a maximum. -/
theorem compensateFollowsTheFormulaAndTheClamp : Obligations.CompensateFollowsTheFormulaAndTheClamp :=
  fun raw t1 t2 t3 trim =>
    ⟨clamp_eq_max_min (by decide) (compTc raw t1 t2 t3 + trim), compensate_in_range raw t1 t2 t3 trim⟩

/-! ### The operands (R80, R81) -/

/-- R81: the raw code is 16 times the two bytes, which leaves the shifts by 3 and 4 exact. -/
theorem rawAssemble_eq_sixteen_mul (v : Vector Byte 6) :
    ∃ k : Int, 0 ≤ k ∧ k ≤ 65535 ∧ ((rawAssemble v).toNat : Int) = 16 * k := by
  have hraw := rawAssemblePlacesTheBytes v
  have h0 := v[0].isLt
  have h1 := v[1].isLt
  exact ⟨(v[0].toNat * 256 + v[1].toNat : Nat), by omega, by omega, by omega⟩

theorem compD_sixteen_mul (k t1 : Int) : compD (16 * k) t1 = k - t1 := by
  unfold compD floorShift
  omega

theorem var1_factor_sixteen_mul (k t1 : Int) :
    floorShift (16 * k) 3 - leftShift t1 1 = 2 * compD (16 * k) t1 := by
  rw [compD_sixteen_mul]
  unfold floorShift leftShift
  omega

theorem zext16_in_range (r : Reg16) : 0 ≤ zext16 r ∧ zext16 r ≤ 65535 := by
  have := r.isLt
  unfold zext16
  omega

theorem sext16_in_range (r : Reg16) : -32768 ≤ sext16 r ∧ sext16 r ≤ 32767 := by
  have hlo := BitVec.le_toInt r
  have hhi := BitVec.toInt_lt (x := r)
  unfold sext16
  omega

/-! ### The bounds of the intermediates (R211) -/

theorem abs_floorShift_le {v m : Int} {n : Nat} (h : |v| ≤ m * 2 ^ n) : |floorShift v n| ≤ m := by
  obtain ⟨hlo, hhi⟩ := abs_le.mp h
  exact abs_le.mpr
    ⟨Int.le_ediv_of_mul_le (by positivity) (by linarith), Int.ediv_le_of_le_mul (by positivity) hhi⟩

theorem abs_mul_le_mul {x y a b : Int} (hx : |x| ≤ a) (hy : |y| ≤ b) : |x * y| ≤ a * b := by
  rw [abs_mul]
  exact mul_le_mul hx hy (abs_nonneg y) ((abs_nonneg x).trans hx)

/-- The square of `d`, shifted, from the bound of `d`. -/
theorem floorShift_sq_in_range {d : Int} (h : |d| ≤ 65535) :
    d * d ≤ 65535 * 65535 ∧ 0 ≤ floorShift (d * d) 12 ∧ floorShift (d * d) 12 ≤ 1048544 := by
  have hsq : d * d ≤ 65535 * 65535 := (le_abs_self _).trans (abs_mul_le_mul h h)
  have hpos : 0 ≤ d * d := mul_self_nonneg d
  unfold floorShift
  omega

/-- T3 reaches -32768 but only 32767, so `var2` has a smaller bound above than below; R211's upper bound of `tc` needs it. -/
theorem floorShift_mul_le {q t3 : Int} (hq0 : 0 ≤ q) (hq : q ≤ 1048544) (ht3 : t3 ≤ 32767) :
    floorShift (q * t3) 14 ≤ 2097024 := by
  have hmul : q * t3 ≤ 1048544 * 32767 :=
    (mul_le_mul_of_nonneg_left ht3 hq0).trans (mul_le_mul_of_nonneg_right hq (by decide))
  unfold floorShift
  omega

/-- Settles O50: each bound from the bounds of its operands; the last one needs that `var1` and `var2` are not both at their
greatest magnitude on the positive side. -/
theorem compensationIntermediatesAreBounded : Obligations.CompensationIntermediatesAreBounded := by
  intro v c
  dsimp only
  obtain ⟨k, hk0, hk, hraw⟩ := rawAssemble_eq_sixteen_mul v
  obtain ⟨ht1lo, ht1hi⟩ := zext16_in_range c.t1
  obtain ⟨ht2lo, ht2hi⟩ := sext16_in_range c.t2
  obtain ⟨ht3lo, ht3hi⟩ := sext16_in_range c.t3
  rw [hraw]
  generalize zext16 c.t1 = t1 at *
  generalize sext16 c.t2 = t2 at *
  generalize sext16 c.t3 = t3 at *
  have hd : |compD (16 * k) t1| ≤ 65535 := by
    rw [compD_sixteen_mul, abs_le]
    omega
  have hf : |floorShift (16 * k) 3 - leftShift t1 1| ≤ 131070 := by
    rw [var1_factor_sixteen_mul]
    exact abs_mul_le_mul (a := 2) (by decide) hd
  have hp1 : |(floorShift (16 * k) 3 - leftShift t1 1) * t2| ≤ 131070 * 32768 :=
    abs_mul_le_mul hf (abs_le.mpr ⟨ht2lo, by omega⟩)
  have hv1 : |compVar1 (16 * k) t1 t2| ≤ 2097120 := abs_floorShift_le hp1
  obtain ⟨hsq, hq0, hq⟩ := floorShift_sq_in_range hd
  have hp2 : |floorShift (compD (16 * k) t1 * compD (16 * k) t1) 12 * t3| ≤ 1048544 * 32768 :=
    abs_mul_le_mul (by rwa [abs_of_nonneg hq0]) (abs_le.mpr ⟨ht3lo, by omega⟩)
  have hv2 : |compVar2 (16 * k) t1 t3| ≤ 2097088 := abs_floorShift_le hp2
  have hv2hi : compVar2 (16 * k) t1 t3 ≤ 2097024 := floorShift_mul_le hq0 hq ht3hi
  have htf : |compTfine (16 * k) t1 t2 t3| ≤ 4194208 := (abs_add_le _ _).trans (add_le_add hv1 hv2)
  have htfhi : compTfine (16 * k) t1 t2 t3 ≤ 4194144 := add_le_add (abs_le.mp hv1).2 hv2hi
  have htc : -81918 ≤ compTc (16 * k) t1 t2 t3 ∧ compTc (16 * k) t1 t2 t3 ≤ 81917 := by
    have htflo := (abs_le.mp htf).1
    unfold compTc floorShift
    omega
  exact ⟨abs_le.mp hf, hp1, abs_le.mp hd, by omega, hq, hp2, hv1, hv2, htf, htc⟩

/-! ### The accuracy (R212) -/

/-- What a floor shift drops: less than one unit, and never a negative amount. -/
theorem floorShift_error (v : Int) (n : Nat) :
    (floorShift v n : ℚ) ≤ (v : ℚ) / 2 ^ n ∧ (v : ℚ) / 2 ^ n < floorShift v n + 1 := by
  have hpow : (0 : Int) < 2 ^ n := by positivity
  have hlo : floorShift v n * 2 ^ n ≤ v := Int.ediv_mul_le v hpow.ne'
  have hhi : v < (floorShift v n + 1) * 2 ^ n := Int.lt_ediv_add_one_mul_self v hpow
  rw [le_div_iff₀ (by positivity), div_lt_iff₀ (by positivity)]
  exact ⟨by exact_mod_cast hlo, by exact_mod_cast hhi⟩

/-- `var1` is one floor of the exact term. -/
theorem compVar1_error (k t1 t2 : Int) :
    (compVar1 (16 * k) t1 t2 : ℚ) ≤ ((k : ℚ) - t1) * t2 / 1024 ∧
      ((k : ℚ) - t1) * t2 / 1024 < compVar1 (16 * k) t1 t2 + 1 := by
  rw [compVar1, var1_factor_sixteen_mul, compD_sixteen_mul]
  obtain ⟨hlo, hhi⟩ := floorShift_error (2 * (k - t1) * t2) 11
  push_cast at hlo hhi
  constructor <;> linarith

/-- A part of a unit, scaled by `|T3| / 16384`, is at most two units. -/
theorem abs_mul_t3_le_two {e : ℚ} (h0 : 0 ≤ e) (h1 : e < 1) {t3 : Int} (ht3 : |t3| ≤ 32768) :
    |e * t3 / 16384| ≤ 2 := by
  have ht3' : |(t3 : ℚ)| ≤ 32768 := by exact_mod_cast ht3
  rw [abs_div, abs_mul, abs_of_nonneg h0, abs_of_pos (by norm_num : (0 : ℚ) < 16384), div_le_iff₀ (by norm_num)]
  calc e * |(t3 : ℚ)| ≤ 1 * 32768 := mul_le_mul h1.le ht3' (abs_nonneg _) (by norm_num)
    _ ≤ 2 * 16384 := by norm_num

/-- `var2` is two floors of the exact term, the inner one scaled by T3. -/
theorem compVar2_error (k t1 : Int) {t3 : Int} (ht3 : |t3| ≤ 32768) :
    (compVar2 (16 * k) t1 t3 : ℚ) ≤ ((k : ℚ) - t1) ^ 2 * t3 / 2 ^ 26 + 2 ∧
      ((k : ℚ) - t1) ^ 2 * t3 / 2 ^ 26 < compVar2 (16 * k) t1 t3 + 3 := by
  rw [compVar2, compD_sixteen_mul]
  obtain ⟨hqlo, hqhi⟩ := floorShift_error ((k - t1) * (k - t1)) 12
  generalize floorShift ((k - t1) * (k - t1)) 12 = q at *
  obtain ⟨hlo, hhi⟩ := floorShift_error (q * t3) 14
  push_cast at hqlo hqhi hlo hhi
  obtain ⟨helo, hehi⟩ := abs_le.mp (abs_mul_t3_le_two (e := ((k : ℚ) - t1) * (k - t1) / 2 ^ 12 - q)
    (by linarith) (by linarith) ht3)
  constructor <;> linarith

/-- Settles O51: `tfine` is less than 4 units below the exact sum and at most 2 above it, a unit is 5/256 of a hundredth of a
degree, and the last shift rounds to the nearest. -/
theorem compensationIsAccurate : Obligations.CompensationIsAccurate := by
  intro v c
  dsimp only
  obtain ⟨k, -, -, hraw⟩ := rawAssemble_eq_sixteen_mul v
  obtain ⟨ht3lo, ht3hi⟩ := sext16_in_range c.t3
  rw [hraw]
  generalize zext16 c.t1 = t1
  generalize sext16 c.t2 = t2
  generalize sext16 c.t3 = t3 at *
  obtain ⟨h1lo, h1hi⟩ := compVar1_error k t1 t2
  obtain ⟨h2lo, h2hi⟩ := compVar2_error k t1 (abs_le.mpr ⟨ht3lo, by omega⟩)
  obtain ⟨hlo, hhi⟩ := floorShift_error (compTfine (16 * k) t1 t2 t3 * 5 + 128) 8
  rw [compTc, abs_lt, Config.compDivisor]
  generalize floorShift (compTfine (16 * k) t1 t2 t3 * 5 + 128) 8 = tc at *
  rw [compTfine] at hlo hhi
  push_cast at hlo hhi ⊢
  constructor <;> linarith

end Sys2Proof.Machine
end

section
/-!
SUPPORT. The sample window (R220 to R224): what one appended sample does, what a fill of ten does, and which step appends.
-/
namespace Sys2Proof.Machine

/-! ### One sample (R220, R221) -/

theorem windowAppend_of_count_ne {w : SampleWindow} (h : w.count.val ≠ 9) (t : Reg16) :
    windowAppend t w = { w with win := w.win.set w.count.val t w.count.isLt, count := w.count + 1 } := by
  have hlt : w.count.val + 1 < 10 := by omega
  have hcount : (⟨w.count.val + 1, hlt⟩ : Fin 10) = w.count + 1 := by
    apply Fin.ext
    rw [Fin.val_add_one_of_lt' hlt]
  unfold windowAppend
  exact (dif_pos hlt).trans (by rw [hcount])

theorem windowAppend_of_count_eq {w : SampleWindow} (h : w.count.val = 9) (t : Reg16) :
    windowAppend t w = { win := w.win.set 9 t, count := 0, avg := meanOf (w.win.set 9 t), avgValid := true } := by
  unfold windowAppend
  dsimp only
  rw [dif_neg (by rw [h]; decide)]
  simp only [h]

/-- Ten registers have a sum within ten times a register's range. -/
theorem windowSum_in_register_range (w : Vector Reg16 10) : 10 * (-32768) ≤ windowSum w ∧ windowSum w ≤ 10 * 32767 := by
  have hmem : ∀ x ∈ w.toList.map sext16, -32768 ≤ x ∧ x ≤ 32767 := by
    intro x hx
    obtain ⟨r, -, rfl⟩ := List.mem_map.mp hx
    exact sext16_in_range r
  have hlo := List.card_nsmul_le_sum (w.toList.map sext16) (-32768) (fun x hx => (hmem x hx).1)
  have hhi := List.sum_le_card_nsmul (w.toList.map sext16) 32767 (fun x hx => (hmem x hx).2)
  simpa [windowSum] using And.intro hlo hhi

/-- R221: the average register holds the truncated mean of any ten registers. -/
theorem toInt_meanOf (w : Vector Reg16 10) : (meanOf w).toInt = ((w.toList.map BitVec.toInt).sum).tdiv 10 := by
  obtain ⟨hlo, hhi⟩ := windowSum_in_register_range w
  obtain ⟨hlo, hhi⟩ := tdiv_in_range hlo hhi
  exact sext16_toReg16 (v := (windowSum w).tdiv 10) (by omega) (by omega)

/-- Settles O53: below the cursor 9 the sample is stored and counted, and at 9 the mean is published. -/
theorem windowAppendFollowsItsRule : Obligations.WindowAppendFollowsItsRule := by
  intro t w
  refine ⟨fun h => windowAppend_of_count_ne h t, fun h => ?_⟩
  rw [windowAppend_of_count_eq h]
  exact ⟨rfl, rfl, rfl, toInt_meanOf _, fun hw ht => sampleOk_meanOf (set_keeps_sampleOk hw ht 9)⟩

/-! ### A fill of ten (R222) -/

/-- A fill that has not published yet: the first slots hold the samples, and the average is the one before the fill. -/
structure FilledWith (w : SampleWindow) (l : List Reg16) (v : SampleWindow) : Prop where
  count : v.count.val = l.length
  slots : v.win.toList.take l.length = l
  avg : v.avg = w.avg
  avgValid : v.avgValid = w.avgValid

theorem take_set_succ {α : Type} {l : List α} {n : Nat} (h : n < l.length) (x : α) :
    (l.set n x).take (n + 1) = l.take n ++ [x] := by
  rw [List.take_add_one, List.take_set_of_le le_rfl, List.getElem?_set_self h, Option.toList_some]

/-- The slot of the next sample follows those already filled. -/
theorem FilledWith.take_set {w v : SampleWindow} {l : List Reg16} (h : FilledWith w l v) (t : Reg16) :
    (v.win.set v.count.val t).toList.take (l ++ [t]).length = l ++ [t] := by
  have hlt : v.count.val < v.win.toList.length := by simp
  rw [Vector.toList_set, List.length_append, List.length_singleton, ← h.count, take_set_succ hlt, h.count, h.slots]

theorem FilledWith.append {w v : SampleWindow} {l : List Reg16} (h : FilledWith w l v) (hl : l.length < 9) (t : Reg16) :
    FilledWith w (l ++ [t]) (windowAppend t v) := by
  have hc := h.count
  rw [windowAppend_of_count_ne (by omega)]
  refine ⟨?_, h.take_set t, h.avg, h.avgValid⟩
  rw [List.length_append, List.length_singleton, ← hc]
  exact Fin.val_add_one_of_lt' (by omega)

theorem foldl_windowAppend_filledWith {w : SampleWindow} (hw : w.count = 0) {l : List Reg16} (hl : l.length < 10) :
    FilledWith w l (l.foldl (fun v t => windowAppend t v) w) := by
  induction l using List.reverseRecOn with
  | nil => exact ⟨by rw [List.foldl_nil, hw]; rfl, rfl, rfl, rfl⟩
  | append_singleton l t ih =>
    rw [List.length_append, List.length_singleton] at hl
    rw [List.foldl_concat]
    exact (ih (by omega)).append (by omega) t

/-- The tenth sample completes the window and publishes its mean. -/
theorem FilledWith.publish {w v : SampleWindow} {l : List Reg16} (h : FilledWith w l v) (hl : l.length = 9) (t : Reg16) :
    (windowAppend t v).win.toList = l ++ [t] ∧ (windowAppend t v).count = 0 ∧
      (windowAppend t v).avg = BitVec.ofInt 16 (((l ++ [t]).map BitVec.toInt).sum.tdiv 10) ∧
      (windowAppend t v).avgValid = true := by
  have hc : v.count.val = 9 := h.count.trans hl
  have hwin : (v.win.set 9 t).toList = l ++ [t] := by
    have htake := h.take_set t
    simp only [hc] at htake
    rwa [List.take_of_length_le (by simp [hl])] at htake
  rw [windowAppend_of_count_eq hc, ← hwin]
  exact ⟨rfl, rfl, rfl, rfl⟩

/-- Settles O54: nine samples fill the slots before the last, and the tenth publishes. -/
theorem tenSamplesPublishTheirMean : Obligations.TenSamplesPublishTheirMean := by
  intro w l hw
  refine ⟨fun hl => ?_, fun hl => ?_⟩
  · obtain ⟨hcount, -, havg, hvalid⟩ := foldl_windowAppend_filledWith hw hl
    exact ⟨hcount, havg, hvalid⟩
  · obtain ⟨l, t, rfl⟩ := List.eq_nil_or_concat' l |>.resolve_left (by rintro rfl; cases hl)
    rw [List.length_append, List.length_singleton] at hl
    rw [List.foldl_concat]
    exact (foldl_windowAppend_filledWith hw (by omega)).publish (by omega) t

/-! ### Which step appends (R222, R224) -/

/-- Of the bus completions only the last raw byte changes the window, and it appends one sample. -/
theorem busMove_window {rdata : Byte} {s t : State} (h : BusMove rdata s t) (hne : t.window ≠ s.window) :
    s.session.ps = .adcReadingInProgress ∧ s.session.byteIndex ≠ 0 ∧ ∃ r, t.window = windowAppend r s.window := by
  cases h with
  | lastRawByte hps h0 => exact ⟨hps, fun h => h0 (congrArg Fin.val h), _, rfl⟩
  | statusTest => exact absurd (by unfold testStatus; split <;> rfl) hne
  | _ => exact absurd rfl hne

/-- Of the engine's moves only a completed bus event reaches the window. -/
theorem engineMove_window {p : InputPorts} {s t : State} (h : EngineMove p s t) (hne : t.window ≠ s.window) :
    p.srst = false ∧ p.busEvt = true ∧ p.busNack = false ∧ s.session.ps = .adcReadingInProgress ∧
      s.session.byteIndex ≠ 0 ∧ ∃ r, t.window = windowAppend r s.window := by
  cases h with
  | bus hsrst hbus hnack _ hmove => exact ⟨hsrst, hbus, hnack, busMove_window hmove hne⟩
  | _ => exact absurd rfl hne

/-- Settles O55: the step's engine move appends one sample if it changes the window at all. -/
theorem averageIsStaleBetweenFills : Obligations.AverageIsStaleBetweenFills := by
  intro s t w rest hs hr hstep hne
  rw [step_of_fetch_input (fetch_fst_of_cons hs)] at hstep
  obtain ⟨hrst, -⟩ | ⟨-, u, hu, rfl⟩ := wholeCycle_eq_next hstep
  · rw [hr] at hrst
    cases hrst
  rw [userStep_window, ← sampled_window s] at hne
  obtain ⟨hsrst, hbus, hnack, hps, hi, r, hwindow⟩ := engineMove_window hu hne
  rw [sampled_session] at hps hi
  rw [sampled_window] at hwindow
  rw [userStep_window, hwindow]
  refine ⟨hps, hi, hsrst, hbus, hnack, fun hc => ?_, fun hc => ?_⟩
  · rw [windowAppend_of_count_ne hc]
    exact ⟨rfl, rfl, Fin.val_add_one_of_lt' (by omega)⟩
  · rw [windowAppend_of_count_eq hc]
    exact ⟨rfl, rfl⟩

end Sys2Proof.Machine
end

section
/-!
SUPPORT. The block's one exception: its entry (R241), the return from it (R246), and what runs in Error keep (R243).
-/
namespace Sys2Proof.Machine

/-! ### Entry and return (R241, R246) -/

/-- R172 (c): in Error the entry is the ignored event's cycle. -/
theorem raiseBusNack_of_error {s : State} (h : s.session.ps = .error) : raiseBusNack s = noCommand s := by
  rw [raiseBusNack, ← h]
  rfl

/-- Settles O33: outside Error the NACK is the exception's entry, and in Error the entry is what ignoring it does. -/
theorem busNackEntersError : Obligations.BusNackEntersError := by
  intro s
  rw [exec_busNack]
  split
  · next h => exact congrArg _ (raiseBusNack_of_error h).symm
  · rfl

/-- Settles O34: SRST is EngineReset in every protocol state. -/
theorem srstRestartsTheEngine : Obligations.SrstRestartsTheEngine := fun s => exec_srst s

/-! ### The user cluster along a run (R61) -/

/-- Two states with the same parameters and the same user cluster. -/
structure AgreeOnUser (s s' : State) : Prop where
  params : s.params = s'.params
  nav : s.nav = s'.nav
  dbA : s.dbA = s'.dbA
  dbB : s.dbB = s'.dbB
  clock : s.clock = s'.clock

/-- The words on the ports are no part of the user cluster. -/
theorem AgreeOnUser.onPorts {s s' : State} (h : AgreeOnUser s s') (ws ws' : List InputWord) :
    AgreeOnUser (onPorts ws s) (onPorts ws' s') :=
  ⟨h.params, h.nav, h.dbA, h.dbB, h.clock⟩

/-- One word's step from two states that agree on the user cluster gives two such states again. -/
theorem step_keeps_agreeOnUser {s s' t t' : State} {w : InputWord} {rest rest' : List PortWord} (h : AgreeOnUser s s')
    (hs : s.script = .input w :: rest) (hs' : s'.script = .input w :: rest') (ht : step s = .next t)
    (ht' : step s' = .next t') : AgreeOnUser t t' := by
  obtain ⟨huser, -⟩ := theTwoClustersAreIndependent s s' t t' w w rest rest' hs hs' h.params rfl ht ht'
  obtain ⟨hnav, hdbA, hdbB, hclock⟩ := huser h.nav h.dbA h.dbB h.clock rfl rfl rfl rfl
  have hparams : t.params = t'.params := by rw [step_params ht, step_params ht', h.params]
  exact ⟨hparams, hnav, hdbA, hdbB, hclock⟩

/-- A run that answers next does so through its first step. -/
theorem core_run_succ_eq_next {M : Host.Core} {k : Nat} {s t : M.State} (h : M.run (k + 1) s = .next t) :
    ∃ u, M.step s = .next u ∧ M.run k u = .next t := by
  rw [Host.Core.run] at h
  split at h
  · next u hu => exact ⟨u, hu, h⟩
  · cases h
  · cases h

theorem runWords_cons_eq_next {w : InputWord} {ws : List InputWord} {s t : State} (h : runWords (w :: ws) s = .next t) :
    ∃ u, step (onPorts (w :: ws) s) = .next u ∧ runWords ws u = .next t := by
  obtain ⟨u, hu, -⟩ := core_run_succ_eq_next (M := Sys2Proof.core) h
  exact ⟨u, hu, (runWords_cons hu).symm.trans h⟩

/-- Two runs of the same words from states that agree on the user cluster end in such states, whatever their engines do. -/
theorem runWords_keeps_agreeOnUser {s s' t t' : State} {ws : List InputWord} (h : AgreeOnUser s s')
    (ht : runWords ws s = .next t) (ht' : runWords ws s' = .next t') : AgreeOnUser t t' := by
  induction ws generalizing s s' with
  | nil =>
    cases ht
    cases ht'
    exact h.onPorts [] []
  | cons w ws ih =>
    obtain ⟨u, hu, hrun⟩ := runWords_cons_eq_next ht
    obtain ⟨u', hu', hrun'⟩ := runWords_cons_eq_next ht'
    exact ih (step_keeps_agreeOnUser (h.onPorts (w :: ws) (w :: ws)) rfl rfl hu hu') hrun hrun'

/-! ### Runs in Error (R243) -/

/-- An input word with neither of the two ways out of Error (R246, R270). -/
def NoReset (w : InputWord) : Prop := (portsOf w).rst = false ∧ (portsOf w).srst = false

/-- `s` is in Error with the sensor cluster of `r`. -/
def InErrorAs (r s : State) : Prop :=
  s.session.ps = .error ∧ s.session = r.session ∧ s.cal = r.cal ∧ s.window = r.window

/-- In Error a step without SRST and RST completes with the sensor cluster as it was, and issues no command. -/
theorem step_keeps_inErrorAs {r s : State} {w : InputWord} (h : InErrorAs r s) (hreset : NoReset w)
    (hw : (fetch s).1 = .input w) : ∃ t, step s = .next t ∧ InErrorAs r t ∧ t.cmd = BusCommand.none := by
  obtain ⟨hrst, hsrst⟩ := hreset
  have hstep : step s = .next (userStep (portsOf w) (sampled s) (noCommand (sampled s))) := by
    have hps : (sampled s).session.ps = .error := by rw [sampled_session, h.1]
    rw [step_of_fetch_input hw, wholeCycle_of_not_rst hrst, sensorStep_of_error hps, hsrst]
    rfl
  exact ⟨_, hstep, by simpa [InErrorAs] using h, rfl⟩

/-- A run without SRST and RST stays in Error with the sensor cluster as it was, and ends without a command if it has a step. -/
theorem runWords_keeps_inErrorAs {r s : State} {ws : List InputWord} (h : InErrorAs r s) (hws : ∀ w ∈ ws, NoReset w) :
    ∃ t, runWords ws s = .next t ∧ InErrorAs r t ∧ (ws ≠ [] → t.cmd = BusCommand.none) := by
  cases ws with
  | nil => exact ⟨_, runWords_nil s, h, absurd rfl⟩
  | cons w ws =>
    obtain ⟨hw, hrest⟩ := List.forall_mem_cons.mp hws
    obtain ⟨u, hu, hfirst⟩ := step_keeps_inErrorAs (s := onPorts (w :: ws) s) h hw (fetch_onPorts_cons w ws s)
    obtain ⟨t, ht, herror, hcmd⟩ := runWords_keeps (P := fun u => InErrorAs r u ∧ u.cmd = BusCommand.none)
      (fun _ _ h => h) (fun _ _ hu => step_keeps_inErrorAs hu.1) hfirst hrest
    exact ⟨t, (runWords_cons hu).trans ht, herror, fun _ => hcmd⟩

/-- Settles O37: the run keeps Error and the sensor cluster, and its user cluster is that of the same run beside any other
session. -/
theorem errorIsAbsorbing : Obligations.ErrorIsAbsorbing := by
  intro s ws hps hws
  obtain ⟨t, ht, ⟨herror, hsession, hcal, hwindow⟩, hcmd⟩ := runWords_keeps_inErrorAs ⟨hps, rfl, rfl, rfl⟩ hws
  refine ⟨t, ht, herror, (sensorFault_iff t).mpr herror, hsession, hcal, hwindow, hcmd, fun ss t' ht' => ?_⟩
  obtain ⟨-, hnav, hdbA, hdbB, hclock⟩ :=
    runWords_keeps_agreeOnUser (s := s) (s' := { s with session := ss }) ⟨rfl, rfl, rfl, rfl, rfl⟩ ht ht'
  exact ⟨hnav, hdbA, hdbB, hclock⟩

end Sys2Proof.Machine
end

section
/-!
SUPPORT. The reset's dominance within a cycle (R271), and what the block shows after it (R36, R270).
-/
namespace Sys2Proof.Machine

/-- R271: beside `rst = 1` no other operation of the cycle runs. -/
theorem cycle_of_rst {p : InputPorts} (hr : p.rst = true) (s : State) : cycle p s = exec .rst s := by
  rw [cycle, operations_of_rst hr, runAll_singleton]

/-- The output ports read none of the three fields that RST keeps: the parameters, the script and the bus record. -/
theorem outputs_resetBlock (s : State) : outputs (resetBlock s) = outputs State.reset := rfl

/-- Settles O12: the cycle is RST alone, RST writes the reset state's records, and the ports are that state's. -/
theorem rstGivesTheResetState : Obligations.RstGivesTheResetState := by
  refine ⟨fun s w rest hs hr => ?_, fun s => ⟨resetBlock s, exec_rst s, rfl, ?_⟩⟩
  · rw [step_input hs, cycle_of_rst hr]
  · rw [outputs_resetBlock]
    decide

end Sys2Proof.Machine
end
